-- ==== Sys2Proof/Word.lean ====
section
/-! DEFINITION. The two widths of the machine (00_scope.md R1, R5): bytes and 16-bit words.
Arithmetic on them is `BitVec` arithmetic, which is modular, as R5 says. -/

namespace Sys2Proof

/-- A `u8` of R5: a register of R30, or one cell of the byte-addressed bus (R80). -/
abbrev Byte := BitVec 8

/-- A `u16` of R5: SP, PC, a register pair or a bus address. -/
abbrev Word := BitVec 16

/-- A 2-bit shade or colour index (R400, R414). -/
abbrev Shade := BitVec 2

end Sys2Proof
end

