-- ==== Sys2Proof/Config.lean ====
section
/-! DEFINITION. The parameters of 00_scope.md R2. A parameter the spec marks "decided" is a definition
with the decided value; the other value is written out in the machine too and is reached only by
changing the definition here, which is a departure from the spec (R2). The one parameter the spec marks
OPEN is an opaque constant: no proof can see its value, so every claim holds for both (log entry 1).
The launch input `RomImage` (R2) is the argument of `Machine.loadRom`. -/

namespace Sys2Proof

/-- `IllegalOpMode` (R2, R350; 92 D9). -/
inductive IllegalOpMode where
  | nop
  | lock
  deriving DecidableEq, Repr

/-- `VramMode3Read` (R2, R84; 92 D10). -/
inductive VramMode3Read where
  | passThrough
  | returnFF
  deriving DecidableEq, Repr, Inhabited

/-- `HaltBug` (R2, R343; 92 D11). -/
inductive HaltBug where
  | off
  | on
  deriving DecidableEq, Repr

/-- `SpritePriority` (R2, R425; 92 D12). -/
inductive SpritePriority where
  | xThenOam
  | oamOrder
  deriving DecidableEq, Repr

namespace Config

/-- R2: decided `Nop` (92 D9). -/
def illegalOpMode : IllegalOpMode := .nop

/-- R2: OPEN (92 D10). A value without a body: R84 allows either, and the model fixes neither. -/
opaque vramMode3Read : VramMode3Read

/-- R2: decided `Off` (92 D11). -/
def haltBug : HaltBug := .off

/-- R2: decided `XThenOam` (92 D12). -/
def spritePriority : SpritePriority := .xThenOam

/-- R2, R110: decided 0x03 (92 D13); the other value is 0x0F. -/
def mbc3RamBankMask : Byte := 0x03#8

/-- R2, R500: decided 1 (92 D34). -/
def audioGain : Int := 1

end Config

end Sys2Proof
end

