-- ==== Sys2Proof/Machine/State.lean ====
section
/-! DEFINITION. The whole machine of 10_state.md as plain data: "Machine exclusively owns: CpuState,
MemoryState, CartridgeState, PpuState, ApuState, TimerState, JoypadState" (10_state.md), the reasons a
step can stop (none that a run meets: R520), and the state `init` leaves (70_reset_and_hazards.md R570).

One field is the model's own, not the spec's: `cycles`, the pseudo-variable `cycles` of R9, through which
an instruction hands its T-cycle count to the machine step (log entry 4). -/

namespace Sys2Proof.Machine

/-- Cells of width `w` by key, in one canonical form (`Cells.wf`): keys strictly rising, and no entry equal
to what an unlisted key reads as. An unlisted key reads as zero (`Cells.unlisted`), the value `init`
gives every byte of every array (R37, R570). -/
abbrev Cells (w : Nat) := List (Nat × BitVec w)

/-- A byte array: a list of `Host.Cell`. -/
abbrev Memory := Cells 8

/-- CpuState: the registers of R30, R33, R34 and the control bits of R36. The pairs are views, not fields
(R32). -/
structure Cpu where
  a : Byte
  f : Byte
  b : Byte
  c : Byte
  d : Byte
  e : Byte
  h : Byte
  l : Byte
  sp : Word
  pc : Word
  halted : Bool
  ime : Bool
  imeScheduled : Bool
  locked : Bool
  haltBug : Bool
  deriving DecidableEq, Repr

/-- MemoryState (R37): each array is keyed by its own offset, as the spec indexes it (R81). Every IO register
of R38 to R74 that has storage is a byte of `io` under its offset. -/
structure Arrays where
  vram : Memory
  wram : Memory
  oam : Memory
  io : Memory
  hram : Memory
  ie : Byte
  deriving DecidableEq, Repr

/-- The mapper set of R100. -/
inductive Mapper where
  | none
  | mbc1
  | mbc3
  | mbc5
  deriving DecidableEq, Repr

/-- CartridgeState (R100). `mbcMode` true is mode 1. `title` holds the characters before the terminator
(R573). -/
structure Cartridge where
  rom : Memory
  romSize : Nat
  ram : Memory
  ramSize : Nat
  mapper : Mapper
  romBank : BitVec 9
  ramBank : BitVec 4
  ramEnabled : Bool
  mbcMode : Bool
  title : List Byte
  deriving DecidableEq, Repr

/-- PpuState (R76, R400): entry `y * 160 + x` of the framebuffer is column x of line y. The mode and LY live in
IO (R48, R50). -/
structure Ppu where
  framebuffer : Cells 2
  frameReady : Bool
  scanlineCycles : Nat
  deriving DecidableEq, Repr

/-- The envelope fields that channels 1, 2 and 4 hold (R77). -/
structure Envelope where
  volume : BitVec 4
  timer : Nat
  period : BitVec 3
  increase : Bool
  deriving DecidableEq, Repr

/-- The fields that the square channels 1 and 2 share (R77). -/
structure Square where
  enabled : Bool
  frequency : BitVec 11
  frequencyTimer : Nat
  dutyPosition : BitVec 3
  duty : BitVec 2
  envelope : Envelope
  lengthCounter : Nat
  deriving DecidableEq, Repr

/-- The sweep fields that only channel 1 holds (R77). -/
structure Sweep where
  timer : Nat
  period : BitVec 3
  negate : Bool
  shift : BitVec 3
  shadowFrequency : BitVec 11
  deriving DecidableEq, Repr

/-- Channel 3 (R77). -/
structure Wave where
  enabled : Bool
  dacEnabled : Bool
  frequency : BitVec 11
  frequencyTimer : Nat
  position : BitVec 5
  volume : BitVec 2
  lengthCounter : Nat
  deriving DecidableEq, Repr

/-- Channel 4 (R77). -/
structure Noise where
  enabled : Bool
  envelope : Envelope
  frequencyTimer : Nat
  divisor : BitVec 3
  shiftAmount : BitVec 4
  widthMode : Bool
  lfsr : BitVec 15
  lengthCounter : Nat
  deriving DecidableEq, Repr

/-- ApuState (R77). The buffer is keyed by sample position: frame j is positions 2j (left) and 2j + 1 (right),
each a signed 16-bit sample in two's complement (R18, R501). -/
structure Apu where
  buffer : Cells 16
  writePos : Nat
  sampleCycles : Nat
  frameSequencerCycles : Nat
  frameSequencerStep : BitVec 3
  masterEnable : Bool
  ch1 : Square
  sweep : Sweep
  ch2 : Square
  ch3 : Wave
  ch4 : Noise
  deriving DecidableEq, Repr

/-- TimerState (R78). DIV, TIMA, TMA and TAC are IO bytes 0x04 to 0x07. -/
structure Timer where
  divCycles : Nat
  timaCycles : Nat
  deriving DecidableEq, Repr

/-- JoypadState (R79): eight button latches (true is pressed) and two select latches (true is selected). -/
structure Joypad where
  a : Bool
  b : Bool
  select : Bool
  start : Bool
  right : Bool
  left : Bool
  up : Bool
  down : Bool
  selectButtons : Bool
  selectDpad : Bool
  deriving DecidableEq, Repr

/-- The machine. -/
structure State where
  cpu : Cpu
  mem : Arrays
  cart : Cartridge
  ppu : Ppu
  apu : Apu
  timer : Timer
  joypad : Joypad
  cycles : Nat
  deriving DecidableEq, Repr

/-- The reasons the machine can stop with a fault: none. "The hardware has no synchronous exception, trap or
fault" (R520), so the type is empty and nothing can raise one. -/
inductive Fault where
  deriving DecidableEq, Repr

/-- The reasons an instruction can have no meaning. -/
inductive Refusal where
  /-- Raised only by an arm of `exec` whose instruction has no meaning yet; no arm of this model does.
  Safe: the machine stops where the hardware goes on. -/
  | notModelled (mnemonic : String)
  deriving DecidableEq, Repr

/-- What a meaning and a step answer. -/
abbrev Result := Host.Outcome State Fault Refusal

def Envelope.zero : Envelope := { volume := 0, timer := 0, period := 0, increase := false }

def Square.zero : Square :=
  { enabled := false, frequency := 0, frequencyTimer := 0, dutyPosition := 0, duty := 0,
    envelope := Envelope.zero, lengthCounter := 0 }

def Sweep.zero : Sweep :=
  { timer := 0, period := 0, negate := false, shift := 0, shadowFrequency := 0 }

def Wave.zero : Wave :=
  { enabled := false, dacEnabled := false, frequency := 0, frequencyTimer := 0, position := 0,
    volume := 0, lengthCounter := 0 }

def Noise.zero : Noise :=
  { enabled := false, envelope := Envelope.zero, frequencyTimer := 0, divisor := 0, shiftAmount := 0,
    widthMode := false, lfsr := 0, lengthCounter := 0 }

/-- R77: "every field 0 or false after `init`". -/
def Apu.zero : Apu :=
  { buffer := [], writePos := 0, sampleCycles := 0, frameSequencerCycles := 0, frameSequencerStep := 0,
    masterEnable := false, ch1 := Square.zero, sweep := Sweep.zero, ch2 := Square.zero,
    ch3 := Wave.zero, ch4 := Noise.zero }

/-- R79: after `init` every button is false and both latches are false. -/
def Joypad.zero : Joypad :=
  { a := false, b := false, select := false, start := false, right := false, left := false, up := false,
    down := false, selectButtons := false, selectDpad := false }

/-- R100: the cartridge slot with nothing loaded, which holds `romBank = 1`. -/
def Cartridge.empty : Cartridge :=
  { rom := [], romSize := 0, ram := [], ramSize := 0, mapper := .none, romBank := 1, ramBank := 0,
    ramEnabled := false, mbcMode := false, title := [] }

/-- R14: `new_machine()`, "a zeroed machine". It is not the post-boot state. -/
def State.zeroed : State :=
  { cpu := { a := 0, f := 0, b := 0, c := 0, d := 0, e := 0, h := 0, l := 0, sp := 0, pc := 0,
             halted := false, ime := false, imeScheduled := false, locked := false, haltBug := false },
    mem := { vram := [], wram := [], oam := [], io := [], hram := [], ie := 0 },
    cart := { Cartridge.empty with romBank := 0 },
    ppu := { framebuffer := [], frameReady := false, scanlineCycles := 0 },
    apu := Apu.zero, timer := { divCycles := 0, timaCycles := 0 }, joypad := Joypad.zero, cycles := 0 }

/-- R570: the state `init` leaves. The post-boot registers, LCDC = 0x91, STAT = 0x85, BGP = 0xFC,
`romBank = 1`, and every other field zero, false or empty. -/
def State.reset : State :=
  { cpu := { a := 0x01, f := 0xB0, b := 0x00, c := 0x13, d := 0x00, e := 0xD8, h := 0x01, l := 0x4D,
             sp := 0xFFFE, pc := 0x0100,
             halted := false, ime := false, imeScheduled := false, locked := false, haltBug := false },
    mem := { vram := [], wram := [], oam := [],
             io := [(0x40, 0x91), (0x41, 0x85), (0x47, 0xFC)], hram := [], ie := 0 },
    cart := Cartridge.empty,
    ppu := { framebuffer := [], frameReady := false, scanlineCycles := 0 },
    apu := Apu.zero, timer := { divCycles := 0, timaCycles := 0 }, joypad := Joypad.zero, cycles := 0 }

end Sys2Proof.Machine
end

