-- ==== Sys2Proof/Machine/Memory.lean ====
section
/-! DEFINITION. Reading and writing the sparse arrays of the state. A write keeps the canonical form
`Cells.wf`: writing the value an unlisted key reads as removes the key's entry, so equal arrays are equal
lists. -/

namespace Sys2Proof.Machine

/-- What an unlisted key reads as: zero, the value `init` gives every byte of every array (R37, R570), every
framebuffer entry (R400) and every audio sample (R77). -/
def Cells.unlisted (w : Nat) : BitVec w := 0#w

/-- The canonical form: keys strictly rising, no entry equal to what an unlisted key reads as. -/
abbrev Cells.wf {w : Nat} (m : Cells w) : Prop :=
  m.Pairwise (fun x y => x.1 < y.1) ∧ ∀ c ∈ m, c.2 ≠ Cells.unlisted w

/-- The canonical form of a byte array. -/
abbrev Memory.wf (m : Memory) : Prop := Cells.wf m

/-- The value at a key. -/
def Cells.read {w : Nat} : Cells w → Nat → BitVec w
  | [], _ => Cells.unlisted w
  | (k', v) :: t, k => if k' = k then v else Cells.read t k

/-- The cells without a key's entry. -/
def Cells.erase {w : Nat} (m : Cells w) (k : Nat) : Cells w := m.filter (fun c => c.1 != k)

/-- The cells with one entry placed before the first larger key. -/
def Cells.place {w : Nat} (k : Nat) (v : BitVec w) : Cells w → Cells w
  | [] => [(k, v)]
  | c :: t => if k < c.1 then (k, v) :: c :: t else c :: Cells.place k v t

/-- Write one value at a key. -/
def Cells.write {w : Nat} (m : Cells w) (k : Nat) (v : BitVec w) : Cells w :=
  if v = Cells.unlisted w then Cells.erase m k else Cells.place k v (Cells.erase m k)

/-- Write `f 0`, …, `f (n - 1)` at the keys `base`, …, `base + n - 1`. -/
def Cells.writeRange {w : Nat} (m : Cells w) (base : Nat) (f : Nat → BitVec w) : Nat → Cells w
  | 0 => m
  | n + 1 => Cells.write (Cells.writeRange m base f n) (base + n) (f n)

/-- The canonical cells of a list of values at the keys from `base` on. -/
def Cells.ofList {w : Nat} (base : Nat) : List (BitVec w) → Cells w
  | [] => []
  | v :: t => if v = Cells.unlisted w then Cells.ofList (base + 1) t else (base, v) :: Cells.ofList (base + 1) t

/-- `n` applications of a function, for the `while` loops whose number of turns is known. -/
def applyTimes {α : Type} (f : α → α) : Nat → α → α
  | 0, x => x
  | n + 1, x => applyTimes f n (f x)

end Sys2Proof.Machine
end

