-- ==== Sys2Proof/Machine/Cart.lean ====
section
/-! DEFINITION. The cartridge address decoder (20_memory.md section 5). -/

namespace Sys2Proof.Machine

/-- A ROM byte by its index in the image; at or beyond `romSize`, 0xFF (R103). -/
def Cartridge.romByte (c : Cartridge) (i : Nat) : Byte := if i < c.romSize then c.rom.read i else 0xFF#8

/-- The index in the image of the bus address `a` of 0x0000 to 0x7FFF: bank 0 below 0x4000 (R101), bank
`romBank` in full from 0x4000 on (R102). -/
def Cartridge.romIndex (c : Cartridge) (a : Nat) : Nat :=
  if a < 0x4000 then a else c.romBank.toNat * 0x4000 + (a - 0x4000)

/-- `CartRead(a)` for a in 0x0000 to 0x7FFF (R101, R102). -/
def Cartridge.read (c : Cartridge) (a : Nat) : Byte := c.romByte (c.romIndex a)

/-- The RAM index of offset `off` in the window (R116). -/
def Cartridge.ramIndex (c : Cartridge) (off : Nat) : Nat := c.ramBank.toNat * 0x2000 + off

/-- R116. -/
def Cartridge.ramRead (c : Cartridge) (off : Nat) : Byte :=
  if c.ramEnabled = true ∧ c.ramIndex off < c.ramSize then c.ram.read (c.ramIndex off) else 0xFF#8

/-- R117. -/
def Cartridge.ramWrite (c : Cartridge) (off : Nat) (v : Byte) : Cartridge :=
  if c.ramEnabled = true ∧ c.ramIndex off < c.ramSize then { c with ram := c.ram.write (c.ramIndex off) v } else c

/-- R105: 0x0A in the low nibble enables the RAM, any other value disables it. -/
def Cartridge.enableRam (c : Cartridge) (v : Byte) : Cartridge := { c with ramEnabled := v &&& 0x0F#8 == 0x0A#8 }

/-- R106: the low 5 bits of `romBank`, 0 taken as 1. -/
def Cartridge.mbc1BankLow (c : Cartridge) (v : Byte) : Cartridge :=
  let low : BitVec 5 := v.extractLsb' 0 5
  let low : BitVec 5 := if low = 0 then 1 else low
  { c with romBank := (c.romBank &&& 0x60#9) ||| low.zeroExtend 9 }

/-- R107: by `mbcMode`, the upper 2 bits of `romBank` or `ramBank`. -/
def Cartridge.mbc1Upper (c : Cartridge) (v : Byte) : Cartridge :=
  let two : BitVec 2 := v.extractLsb' 0 2
  if c.mbcMode then { c with ramBank := two.zeroExtend 4 }
  else { c with romBank := (c.romBank &&& 0x1F#9) ||| (two.zeroExtend 9 <<< 5) }

/-- R109: a 7-bit bank, 0 taken as 1. -/
def Cartridge.mbc3Bank (c : Cartridge) (v : Byte) : Cartridge :=
  let b : BitVec 7 := v.extractLsb' 0 7
  { c with romBank := (if b = 0 then (1 : BitVec 7) else b).zeroExtend 9 }

/-- R110, with the mask of the parameter `Mbc3RamBankMask`. -/
def Cartridge.mbc3RamBank (mask : Byte) (c : Cartridge) (v : Byte) : Cartridge :=
  { c with ramBank := (v &&& mask).extractLsb' 0 4 }

/-- MBC1 (R105 to R108), by the 8 KiB range of the address. -/
def Cartridge.mbc1Write (c : Cartridge) (a : Nat) (v : Byte) : Cartridge :=
  if a < 0x2000 then c.enableRam v
  else if a < 0x4000 then c.mbc1BankLow v
  else if a < 0x6000 then c.mbc1Upper v
  else { c with mbcMode := v.getLsbD 0 }

/-- MBC3 (R105, R109 to R111). -/
def Cartridge.mbc3Write (c : Cartridge) (a : Nat) (v : Byte) : Cartridge :=
  if a < 0x2000 then c.enableRam v
  else if a < 0x4000 then c.mbc3Bank v
  else if a < 0x6000 then Cartridge.mbc3RamBank Config.mbc3RamBankMask c v
  else c

/-- MBC5 (R105, R112 to R115). -/
def Cartridge.mbc5Write (c : Cartridge) (a : Nat) (v : Byte) : Cartridge :=
  if a < 0x2000 then c.enableRam v
  else if a < 0x3000 then { c with romBank := (c.romBank &&& 0x100#9) ||| v.zeroExtend 9 }
  else if a < 0x4000 then { c with romBank := (c.romBank &&& 0x0FF#9) ||| (if v.getLsbD 0 then 0x100#9 else 0) }
  else if a < 0x6000 then { c with ramBank := v.extractLsb' 0 4 }
  else c

/-- `CartWrite(a, v)` for a in 0x0000 to 0x7FFF (R104). -/
def Cartridge.write (c : Cartridge) (a : Nat) (v : Byte) : Cartridge :=
  match c.mapper with
  | .none => c
  | .mbc1 => c.mbc1Write a v
  | .mbc3 => c.mbc3Write a v
  | .mbc5 => c.mbc5Write a v

/-- R118: the mapper of a cartridge-type byte. -/
def mapperOfType (t : Byte) : Mapper :=
  let n := t.toNat
  if 0x01 ≤ n ∧ n ≤ 0x03 then .mbc1
  else if 0x0F ≤ n ∧ n ≤ 0x13 then .mbc3
  else if 0x19 ≤ n ∧ n ≤ 0x1E then .mbc5
  else .none

/-- R119: the RAM size of a RAM-size byte. -/
def ramSizeOfByte (t : Byte) : Nat :=
  match t.toNat with
  | 1 => 2 * 1024
  | 2 => 8 * 1024
  | 3 => 32 * 1024
  | 4 => 128 * 1024
  | 5 => 64 * 1024
  | _ => 0

end Sys2Proof.Machine
end

