-- ==== Sys2Proof/Decode.lean ====
section
/-! DEFINITION. From bytes to instructions and back (30_encoding.md). `decode` follows the field split of
R141 and the prose of R146 and R147; the operand codes are R142 to R145. `encode` is written separately,
from the opcode map's own numbers (R146, R147), so that the two can be compared. `decode` is total: it
answers an instruction or names why the bytes hold none, which is only that too few bytes were given (R150:
"every byte value at PC selects exactly one row"). -/

namespace Sys2Proof

/-! Byte order (R5, R86): `joinBytes hi lo` is the `{hi, lo}` of R5. -/

/-- `{hi, lo}` of R5. -/
def joinBytes (hi lo : Byte) : Word := hi ++ lo

/-- `v[15:8]`. -/
def hiByte (v : Word) : Byte := v.extractLsb' 8 8

/-- `v[7:0]`. -/
def loByte (v : Word) : Byte := v.extractLsb' 0 8

/-- `sext_16` of R5. -/
def sext16 (v : Byte) : Word := v.signExtend 16

/-! The fields of an opcode byte (R141). -/

def fieldX (op : Byte) : Nat := op.toNat / 64
def fieldY (op : Byte) : Nat := op.toNat / 8 % 8
def fieldZ (op : Byte) : Nat := op.toNat % 8
def fieldP (op : Byte) : Nat := op.toNat / 16 % 4
def fieldQ (op : Byte) : Nat := op.toNat / 8 % 2

/-! The operand codes. Each takes the value of its field; a value the field cannot hold is never given. -/

/-- R142. -/
def Operand8.ofCode : Nat → Operand8
  | 0 => .b
  | 1 => .c
  | 2 => .d
  | 3 => .e
  | 4 => .h
  | 5 => .l
  | 6 => .indHl
  | _ => .a

/-- R143, `reg16`. -/
def Pair.ofCode : Nat → Pair
  | 0 => .bc
  | 1 => .de
  | 2 => .hl
  | _ => .sp

/-- R143, `reg16s`. -/
def StackPair.ofCode : Nat → StackPair
  | 0 => .bc
  | 1 => .de
  | 2 => .hl
  | _ => .af

/-- R144. -/
def Cond.ofCode : Nat → Cond
  | 0 => .nz
  | 1 => .z
  | 2 => .nc
  | _ => .c

/-- R145: a bit number or `y` of RST. -/
def Index8.ofCode : Nat → Index8
  | 0 => .i0
  | 1 => .i1
  | 2 => .i2
  | 3 => .i3
  | 4 => .i4
  | 5 => .i5
  | 6 => .i6
  | _ => .i7

/-- R230. -/
def AluOp.ofCode : Nat → AluOp
  | 0 => .add
  | 1 => .adc
  | 2 => .sub
  | 3 => .sbc
  | 4 => .and
  | 5 => .xor
  | 6 => .or
  | _ => .cp

/-- R147. -/
def RotOp.ofCode : Nat → RotOp
  | 0 => .rlc
  | 1 => .rrc
  | 2 => .rl
  | 3 => .rr
  | 4 => .sla
  | 5 => .sra
  | 6 => .swap
  | _ => .srl

/-! The rows of the opcode table by family and operand code. -/

/-- R146, x = 1: `LD reg8(y),reg8(z)`, except that (HL),(HL) is HALT. -/
def Instr.ld8 : Operand8 → Operand8 → Instr
  | .b, .b => .ldBB
  | .b, .c => .ldBC
  | .b, .d => .ldBD
  | .b, .e => .ldBE
  | .b, .h => .ldBH
  | .b, .l => .ldBL
  | .b, .indHl => .ldBIndHl
  | .b, .a => .ldBA
  | .c, .b => .ldCB
  | .c, .c => .ldCC
  | .c, .d => .ldCD
  | .c, .e => .ldCE
  | .c, .h => .ldCH
  | .c, .l => .ldCL
  | .c, .indHl => .ldCIndHl
  | .c, .a => .ldCA
  | .d, .b => .ldDB
  | .d, .c => .ldDC
  | .d, .d => .ldDD
  | .d, .e => .ldDE
  | .d, .h => .ldDH
  | .d, .l => .ldDL
  | .d, .indHl => .ldDIndHl
  | .d, .a => .ldDA
  | .e, .b => .ldEB
  | .e, .c => .ldEC
  | .e, .d => .ldED
  | .e, .e => .ldEE
  | .e, .h => .ldEH
  | .e, .l => .ldEL
  | .e, .indHl => .ldEIndHl
  | .e, .a => .ldEA
  | .h, .b => .ldHB
  | .h, .c => .ldHC
  | .h, .d => .ldHD
  | .h, .e => .ldHE
  | .h, .h => .ldHH
  | .h, .l => .ldHL
  | .h, .indHl => .ldHIndHl
  | .h, .a => .ldHA
  | .l, .b => .ldLB
  | .l, .c => .ldLC
  | .l, .d => .ldLD
  | .l, .e => .ldLE
  | .l, .h => .ldLH
  | .l, .l => .ldLL
  | .l, .indHl => .ldLIndHl
  | .l, .a => .ldLA
  | .indHl, .b => .ldIndHlB
  | .indHl, .c => .ldIndHlC
  | .indHl, .d => .ldIndHlD
  | .indHl, .e => .ldIndHlE
  | .indHl, .h => .ldIndHlH
  | .indHl, .l => .ldIndHlL
  | .indHl, .indHl => .halt
  | .indHl, .a => .ldIndHlA
  | .a, .b => .ldAB
  | .a, .c => .ldAC
  | .a, .d => .ldAD
  | .a, .e => .ldAE
  | .a, .h => .ldAH
  | .a, .l => .ldAL
  | .a, .indHl => .ldAIndHl
  | .a, .a => .ldAA

/-- R146, x = 2, and R230: ALU op y on A and reg8(z). -/
def Instr.alu8 : AluOp → Operand8 → Instr
  | .add, .b => .addAB
  | .add, .c => .addAC
  | .add, .d => .addAD
  | .add, .e => .addAE
  | .add, .h => .addAH
  | .add, .l => .addAL
  | .add, .indHl => .addAIndHl
  | .add, .a => .addAA
  | .adc, .b => .adcAB
  | .adc, .c => .adcAC
  | .adc, .d => .adcAD
  | .adc, .e => .adcAE
  | .adc, .h => .adcAH
  | .adc, .l => .adcAL
  | .adc, .indHl => .adcAIndHl
  | .adc, .a => .adcAA
  | .sub, .b => .subB
  | .sub, .c => .subC
  | .sub, .d => .subD
  | .sub, .e => .subE
  | .sub, .h => .subH
  | .sub, .l => .subL
  | .sub, .indHl => .subIndHl
  | .sub, .a => .subA
  | .sbc, .b => .sbcAB
  | .sbc, .c => .sbcAC
  | .sbc, .d => .sbcAD
  | .sbc, .e => .sbcAE
  | .sbc, .h => .sbcAH
  | .sbc, .l => .sbcAL
  | .sbc, .indHl => .sbcAIndHl
  | .sbc, .a => .sbcAA
  | .and, .b => .andB
  | .and, .c => .andC
  | .and, .d => .andD
  | .and, .e => .andE
  | .and, .h => .andH
  | .and, .l => .andL
  | .and, .indHl => .andIndHl
  | .and, .a => .andA
  | .xor, .b => .xorB
  | .xor, .c => .xorC
  | .xor, .d => .xorD
  | .xor, .e => .xorE
  | .xor, .h => .xorH
  | .xor, .l => .xorL
  | .xor, .indHl => .xorIndHl
  | .xor, .a => .xorA
  | .or, .b => .orB
  | .or, .c => .orC
  | .or, .d => .orD
  | .or, .e => .orE
  | .or, .h => .orH
  | .or, .l => .orL
  | .or, .indHl => .orIndHl
  | .or, .a => .orA
  | .cp, .b => .cpB
  | .cp, .c => .cpC
  | .cp, .d => .cpD
  | .cp, .e => .cpE
  | .cp, .h => .cpH
  | .cp, .l => .cpL
  | .cp, .indHl => .cpIndHl
  | .cp, .a => .cpA

/-- R146, x = 3, z = 6: ALU op y on A and n. -/
def Instr.aluImm (n : Byte) : AluOp → Instr
  | .add => .addAN n
  | .adc => .adcAN n
  | .sub => .subN n
  | .sbc => .sbcAN n
  | .and => .andN n
  | .xor => .xorN n
  | .or => .orN n
  | .cp => .cpN n

/-- R146, x = 0, z = 4. -/
def Instr.inc8 : Operand8 → Instr
  | .b => .incB
  | .c => .incC
  | .d => .incD
  | .e => .incE
  | .h => .incH
  | .l => .incL
  | .indHl => .incIndHl
  | .a => .incA

/-- R146, x = 0, z = 5. -/
def Instr.dec8 : Operand8 → Instr
  | .b => .decB
  | .c => .decC
  | .d => .decD
  | .e => .decE
  | .h => .decH
  | .l => .decL
  | .indHl => .decIndHl
  | .a => .decA

/-- R146, x = 0, z = 6. -/
def Instr.ldImm8 (n : Byte) : Operand8 → Instr
  | .b => .ldBN n
  | .c => .ldCN n
  | .d => .ldDN n
  | .e => .ldEN n
  | .h => .ldHN n
  | .l => .ldLN n
  | .indHl => .ldIndHlN n
  | .a => .ldAN n

/-- R146, x = 0, z = 1, q = 0. -/
def Instr.ldImm16 (nn : Word) : Pair → Instr
  | .bc => .ldBcNn nn
  | .de => .ldDeNn nn
  | .hl => .ldHlNn nn
  | .sp => .ldSpNn nn

/-- R146, x = 0, z = 1, q = 1. -/
def Instr.addHl : Pair → Instr
  | .bc => .addHlBc
  | .de => .addHlDe
  | .hl => .addHlHl
  | .sp => .addHlSp

/-- R146, x = 0, z = 3, q = 0. -/
def Instr.inc16 : Pair → Instr
  | .bc => .incBc
  | .de => .incDe
  | .hl => .incHl
  | .sp => .incSp

/-- R146, x = 0, z = 3, q = 1. -/
def Instr.dec16 : Pair → Instr
  | .bc => .decBc
  | .de => .decDe
  | .hl => .decHl
  | .sp => .decSp

/-- R146, x = 3, z = 5, q = 0. -/
def Instr.push : StackPair → Instr
  | .bc => .pushBc
  | .de => .pushDe
  | .hl => .pushHl
  | .af => .pushAf

/-- R146, x = 3, z = 1, q = 0. -/
def Instr.pop : StackPair → Instr
  | .bc => .popBc
  | .de => .popDe
  | .hl => .popHl
  | .af => .popAf

/-- R146, x = 0, z = 0, y ≥ 4. -/
def Instr.jrCond (e : Byte) : Cond → Instr
  | .nz => .jrNzE8 e
  | .z => .jrZE8 e
  | .nc => .jrNcE8 e
  | .c => .jrCE8 e

/-- R146, x = 3, z = 2, y < 4. -/
def Instr.jpCond (nn : Word) : Cond → Instr
  | .nz => .jpNzNn nn
  | .z => .jpZNn nn
  | .nc => .jpNcNn nn
  | .c => .jpCNn nn

/-- R146, x = 3, z = 4, y < 4. -/
def Instr.callCond (nn : Word) : Cond → Instr
  | .nz => .callNzNn nn
  | .z => .callZNn nn
  | .nc => .callNcNn nn
  | .c => .callCNn nn

/-- R146, x = 3, z = 0, y < 4. -/
def Instr.retCond : Cond → Instr
  | .nz => .retNz
  | .z => .retZ
  | .nc => .retNc
  | .c => .retC

/-- R146, x = 3, z = 7: RST y*8. -/
def Instr.rst : Index8 → Instr
  | .i0 => .rst00
  | .i1 => .rst08
  | .i2 => .rst10
  | .i3 => .rst18
  | .i4 => .rst20
  | .i5 => .rst28
  | .i6 => .rst30
  | .i7 => .rst38

/-- R147, x = 0. -/
def Instr.rot : RotOp → Operand8 → Instr
  | .rlc, .b => .rlcB
  | .rlc, .c => .rlcC
  | .rlc, .d => .rlcD
  | .rlc, .e => .rlcE
  | .rlc, .h => .rlcH
  | .rlc, .l => .rlcL
  | .rlc, .indHl => .rlcIndHl
  | .rlc, .a => .rlcA
  | .rrc, .b => .rrcB
  | .rrc, .c => .rrcC
  | .rrc, .d => .rrcD
  | .rrc, .e => .rrcE
  | .rrc, .h => .rrcH
  | .rrc, .l => .rrcL
  | .rrc, .indHl => .rrcIndHl
  | .rrc, .a => .rrcA
  | .rl, .b => .rlB
  | .rl, .c => .rlC
  | .rl, .d => .rlD
  | .rl, .e => .rlE
  | .rl, .h => .rlH
  | .rl, .l => .rlL
  | .rl, .indHl => .rlIndHl
  | .rl, .a => .rlA
  | .rr, .b => .rrB
  | .rr, .c => .rrC
  | .rr, .d => .rrD
  | .rr, .e => .rrE
  | .rr, .h => .rrH
  | .rr, .l => .rrL
  | .rr, .indHl => .rrIndHl
  | .rr, .a => .rrA
  | .sla, .b => .slaB
  | .sla, .c => .slaC
  | .sla, .d => .slaD
  | .sla, .e => .slaE
  | .sla, .h => .slaH
  | .sla, .l => .slaL
  | .sla, .indHl => .slaIndHl
  | .sla, .a => .slaA
  | .sra, .b => .sraB
  | .sra, .c => .sraC
  | .sra, .d => .sraD
  | .sra, .e => .sraE
  | .sra, .h => .sraH
  | .sra, .l => .sraL
  | .sra, .indHl => .sraIndHl
  | .sra, .a => .sraA
  | .swap, .b => .swapB
  | .swap, .c => .swapC
  | .swap, .d => .swapD
  | .swap, .e => .swapE
  | .swap, .h => .swapH
  | .swap, .l => .swapL
  | .swap, .indHl => .swapIndHl
  | .swap, .a => .swapA
  | .srl, .b => .srlB
  | .srl, .c => .srlC
  | .srl, .d => .srlD
  | .srl, .e => .srlE
  | .srl, .h => .srlH
  | .srl, .l => .srlL
  | .srl, .indHl => .srlIndHl
  | .srl, .a => .srlA

/-- R147, x = 1. -/
def Instr.bit : Index8 → Operand8 → Instr
  | .i0, .b => .bit0B
  | .i0, .c => .bit0C
  | .i0, .d => .bit0D
  | .i0, .e => .bit0E
  | .i0, .h => .bit0H
  | .i0, .l => .bit0L
  | .i0, .indHl => .bit0IndHl
  | .i0, .a => .bit0A
  | .i1, .b => .bit1B
  | .i1, .c => .bit1C
  | .i1, .d => .bit1D
  | .i1, .e => .bit1E
  | .i1, .h => .bit1H
  | .i1, .l => .bit1L
  | .i1, .indHl => .bit1IndHl
  | .i1, .a => .bit1A
  | .i2, .b => .bit2B
  | .i2, .c => .bit2C
  | .i2, .d => .bit2D
  | .i2, .e => .bit2E
  | .i2, .h => .bit2H
  | .i2, .l => .bit2L
  | .i2, .indHl => .bit2IndHl
  | .i2, .a => .bit2A
  | .i3, .b => .bit3B
  | .i3, .c => .bit3C
  | .i3, .d => .bit3D
  | .i3, .e => .bit3E
  | .i3, .h => .bit3H
  | .i3, .l => .bit3L
  | .i3, .indHl => .bit3IndHl
  | .i3, .a => .bit3A
  | .i4, .b => .bit4B
  | .i4, .c => .bit4C
  | .i4, .d => .bit4D
  | .i4, .e => .bit4E
  | .i4, .h => .bit4H
  | .i4, .l => .bit4L
  | .i4, .indHl => .bit4IndHl
  | .i4, .a => .bit4A
  | .i5, .b => .bit5B
  | .i5, .c => .bit5C
  | .i5, .d => .bit5D
  | .i5, .e => .bit5E
  | .i5, .h => .bit5H
  | .i5, .l => .bit5L
  | .i5, .indHl => .bit5IndHl
  | .i5, .a => .bit5A
  | .i6, .b => .bit6B
  | .i6, .c => .bit6C
  | .i6, .d => .bit6D
  | .i6, .e => .bit6E
  | .i6, .h => .bit6H
  | .i6, .l => .bit6L
  | .i6, .indHl => .bit6IndHl
  | .i6, .a => .bit6A
  | .i7, .b => .bit7B
  | .i7, .c => .bit7C
  | .i7, .d => .bit7D
  | .i7, .e => .bit7E
  | .i7, .h => .bit7H
  | .i7, .l => .bit7L
  | .i7, .indHl => .bit7IndHl
  | .i7, .a => .bit7A

/-- R147, x = 2. -/
def Instr.res : Index8 → Operand8 → Instr
  | .i0, .b => .res0B
  | .i0, .c => .res0C
  | .i0, .d => .res0D
  | .i0, .e => .res0E
  | .i0, .h => .res0H
  | .i0, .l => .res0L
  | .i0, .indHl => .res0IndHl
  | .i0, .a => .res0A
  | .i1, .b => .res1B
  | .i1, .c => .res1C
  | .i1, .d => .res1D
  | .i1, .e => .res1E
  | .i1, .h => .res1H
  | .i1, .l => .res1L
  | .i1, .indHl => .res1IndHl
  | .i1, .a => .res1A
  | .i2, .b => .res2B
  | .i2, .c => .res2C
  | .i2, .d => .res2D
  | .i2, .e => .res2E
  | .i2, .h => .res2H
  | .i2, .l => .res2L
  | .i2, .indHl => .res2IndHl
  | .i2, .a => .res2A
  | .i3, .b => .res3B
  | .i3, .c => .res3C
  | .i3, .d => .res3D
  | .i3, .e => .res3E
  | .i3, .h => .res3H
  | .i3, .l => .res3L
  | .i3, .indHl => .res3IndHl
  | .i3, .a => .res3A
  | .i4, .b => .res4B
  | .i4, .c => .res4C
  | .i4, .d => .res4D
  | .i4, .e => .res4E
  | .i4, .h => .res4H
  | .i4, .l => .res4L
  | .i4, .indHl => .res4IndHl
  | .i4, .a => .res4A
  | .i5, .b => .res5B
  | .i5, .c => .res5C
  | .i5, .d => .res5D
  | .i5, .e => .res5E
  | .i5, .h => .res5H
  | .i5, .l => .res5L
  | .i5, .indHl => .res5IndHl
  | .i5, .a => .res5A
  | .i6, .b => .res6B
  | .i6, .c => .res6C
  | .i6, .d => .res6D
  | .i6, .e => .res6E
  | .i6, .h => .res6H
  | .i6, .l => .res6L
  | .i6, .indHl => .res6IndHl
  | .i6, .a => .res6A
  | .i7, .b => .res7B
  | .i7, .c => .res7C
  | .i7, .d => .res7D
  | .i7, .e => .res7E
  | .i7, .h => .res7H
  | .i7, .l => .res7L
  | .i7, .indHl => .res7IndHl
  | .i7, .a => .res7A

/-- R147, x = 3. -/
def Instr.set : Index8 → Operand8 → Instr
  | .i0, .b => .set0B
  | .i0, .c => .set0C
  | .i0, .d => .set0D
  | .i0, .e => .set0E
  | .i0, .h => .set0H
  | .i0, .l => .set0L
  | .i0, .indHl => .set0IndHl
  | .i0, .a => .set0A
  | .i1, .b => .set1B
  | .i1, .c => .set1C
  | .i1, .d => .set1D
  | .i1, .e => .set1E
  | .i1, .h => .set1H
  | .i1, .l => .set1L
  | .i1, .indHl => .set1IndHl
  | .i1, .a => .set1A
  | .i2, .b => .set2B
  | .i2, .c => .set2C
  | .i2, .d => .set2D
  | .i2, .e => .set2E
  | .i2, .h => .set2H
  | .i2, .l => .set2L
  | .i2, .indHl => .set2IndHl
  | .i2, .a => .set2A
  | .i3, .b => .set3B
  | .i3, .c => .set3C
  | .i3, .d => .set3D
  | .i3, .e => .set3E
  | .i3, .h => .set3H
  | .i3, .l => .set3L
  | .i3, .indHl => .set3IndHl
  | .i3, .a => .set3A
  | .i4, .b => .set4B
  | .i4, .c => .set4C
  | .i4, .d => .set4D
  | .i4, .e => .set4E
  | .i4, .h => .set4H
  | .i4, .l => .set4L
  | .i4, .indHl => .set4IndHl
  | .i4, .a => .set4A
  | .i5, .b => .set5B
  | .i5, .c => .set5C
  | .i5, .d => .set5D
  | .i5, .e => .set5E
  | .i5, .h => .set5H
  | .i5, .l => .set5L
  | .i5, .indHl => .set5IndHl
  | .i5, .a => .set5A
  | .i6, .b => .set6B
  | .i6, .c => .set6C
  | .i6, .d => .set6D
  | .i6, .e => .set6E
  | .i6, .h => .set6H
  | .i6, .l => .set6L
  | .i6, .indHl => .set6IndHl
  | .i6, .a => .set6A
  | .i7, .b => .set7B
  | .i7, .c => .set7C
  | .i7, .d => .set7D
  | .i7, .e => .set7E
  | .i7, .h => .set7H
  | .i7, .l => .set7L
  | .i7, .indHl => .set7IndHl
  | .i7, .a => .set7A

/-- R148. -/
def Instr.illegal : IllegalOp → Instr
  | .opD3 => .illegalD3
  | .opDB => .illegalDB
  | .opDD => .illegalDD
  | .opE3 => .illegalE3
  | .opE4 => .illegalE4
  | .opEB => .illegalEB
  | .opEC => .illegalEC
  | .opED => .illegalED
  | .opF4 => .illegalF4
  | .opFC => .illegalFC
  | .opFD => .illegalFD

/-- The opcode byte of an illegal opcode (R148). -/
def IllegalOp.byte : IllegalOp → Byte
  | .opD3 => 0xD3
  | .opDB => 0xDB
  | .opDD => 0xDD
  | .opE3 => 0xE3
  | .opE4 => 0xE4
  | .opEB => 0xEB
  | .opEC => 0xEC
  | .opED => 0xED
  | .opF4 => 0xF4
  | .opFC => 0xFC
  | .opFD => 0xFD

/-! The base page by field (the prose of R146). `n` is the byte after the opcode and `nn` the two bytes after
it, low byte first (R145). -/

/-- R146, x = 0. -/
def decodeX0 (op n : Byte) (nn : Word) : Instr :=
  match fieldZ op with
  | 0 =>
    match fieldY op with
    | 0 => .nop
    | 1 => .ldIndNnSp nn
    | 2 => .stop n
    | 3 => .jrE8 n
    | y => Instr.jrCond n (Cond.ofCode (y - 4))
  | 1 => if fieldQ op = 0 then Instr.ldImm16 nn (Pair.ofCode (fieldP op)) else Instr.addHl (Pair.ofCode (fieldP op))
  | 2 =>
    match fieldY op with
    | 0 => .ldIndBcA
    | 1 => .ldAIndBc
    | 2 => .ldIndDeA
    | 3 => .ldAIndDe
    | 4 => .ldIndHliA
    | 5 => .ldAIndHli
    | 6 => .ldIndHldA
    | _ => .ldAIndHld
  | 3 => if fieldQ op = 0 then Instr.inc16 (Pair.ofCode (fieldP op)) else Instr.dec16 (Pair.ofCode (fieldP op))
  | 4 => Instr.inc8 (Operand8.ofCode (fieldY op))
  | 5 => Instr.dec8 (Operand8.ofCode (fieldY op))
  | 6 => Instr.ldImm8 n (Operand8.ofCode (fieldY op))
  | _ =>
    match fieldY op with
    | 0 => .rlca
    | 1 => .rrca
    | 2 => .rla
    | 3 => .rra
    | 4 => .daa
    | 5 => .cpl
    | 6 => .scf
    | _ => .ccf

/-- R147: the CB page, by the second byte. -/
def decodeCb (op2 : Byte) : Instr :=
  match fieldX op2 with
  | 0 => Instr.rot (RotOp.ofCode (fieldY op2)) (Operand8.ofCode (fieldZ op2))
  | 1 => Instr.bit (Index8.ofCode (fieldY op2)) (Operand8.ofCode (fieldZ op2))
  | 2 => Instr.res (Index8.ofCode (fieldY op2)) (Operand8.ofCode (fieldZ op2))
  | _ => Instr.set (Index8.ofCode (fieldY op2)) (Operand8.ofCode (fieldZ op2))

/-- R146, x = 3, with the illegal opcodes of R148 and the CB prefix of R150, whose second byte is `n`. -/
def decodeX3 (op n : Byte) (nn : Word) : Instr :=
  match fieldZ op with
  | 0 =>
    match fieldY op with
    | 4 => .ldhIndNA n
    | 5 => .addSpE8 n
    | 6 => .ldhAIndN n
    | 7 => .ldHlSpE8 n
    | y => Instr.retCond (Cond.ofCode y)
  | 1 =>
    if fieldQ op = 0 then Instr.pop (StackPair.ofCode (fieldP op))
    else
      match fieldP op with
      | 0 => .ret
      | 1 => .reti
      | 2 => .jpHl
      | _ => .ldSpHl
  | 2 =>
    match fieldY op with
    | 4 => .ldIndCA
    | 5 => .ldIndNnA nn
    | 6 => .ldAIndC
    | 7 => .ldAIndNn nn
    | y => Instr.jpCond nn (Cond.ofCode y)
  | 3 =>
    match fieldY op with
    | 0 => .jpNn nn
    | 1 => decodeCb n
    | 2 => .illegalD3
    | 3 => .illegalDB
    | 4 => .illegalE3
    | 5 => .illegalEB
    | 6 => .di
    | _ => .ei
  | 4 =>
    match fieldY op with
    | 4 => .illegalE4
    | 5 => .illegalEC
    | 6 => .illegalF4
    | 7 => .illegalFC
    | y => Instr.callCond nn (Cond.ofCode y)
  | 5 =>
    if fieldQ op = 0 then Instr.push (StackPair.ofCode (fieldP op))
    else
      match fieldP op with
      | 0 => .callNn nn
      | 1 => .illegalDD
      | 2 => .illegalED
      | _ => .illegalFD
  | 6 => Instr.aluImm n (AluOp.ofCode (fieldY op))
  | _ => Instr.rst (Index8.ofCode (fieldY op))

/-- The instruction whose first byte is `op` and whose next two bytes are `b1` and `b2` (R150); bytes past its
length do not matter. -/
def decodeBytes (op b1 b2 : Byte) : Instr :=
  match fieldX op with
  | 0 => decodeX0 op b1 (joinBytes b2 b1)
  | 1 => Instr.ld8 (Operand8.ofCode (fieldY op)) (Operand8.ofCode (fieldZ op))
  | 2 => Instr.alu8 (AluOp.ofCode (fieldY op)) (Operand8.ofCode (fieldZ op))
  | _ => decodeX3 op b1 (joinBytes b2 b1)

/-- The length of an instruction, from its first byte alone (R140, R150). -/
def opcodeLength (op : Byte) : Nat :=
  match fieldX op, fieldZ op, fieldY op with
  | 0, 0, 0 => 1
  | 0, 0, 1 => 3
  | 0, 0, _ => 2
  | 0, 1, _ => if fieldQ op = 0 then 3 else 1
  | 0, 6, _ => 2
  | 3, 0, y => if y < 4 then 1 else 2
  | 3, 2, y => if y < 4 ∨ y = 5 ∨ y = 7 then 3 else 1
  | 3, 3, 0 => 3
  | 3, 3, 1 => 2
  | 3, 4, y => if y < 4 then 3 else 1
  | 3, 5, 1 => 3
  | 3, 6, _ => 2
  | _, _, _ => 1

/-- Why a byte sequence holds no instruction. -/
inductive DecodeError where
  /-- There is no byte to read. -/
  | noBytes
  /-- The first byte selects a row of `length` bytes and there are fewer. -/
  | truncated (length : Nat)
  deriving DecidableEq, Repr

/-- The instruction at the head of a byte sequence, with the bytes after it. -/
def decode : List Byte → Except DecodeError (Instr × List Byte)
  | [] => .error .noBytes
  | op :: rest =>
    if rest.length + 1 < opcodeLength op then .error (.truncated (opcodeLength op))
    else .ok (decodeBytes op (rest.getD 0 0) (rest.getD 1 0), rest.drop (opcodeLength op - 1))

/-- The bytes of an instruction in fetch order (R140): the opcode map's number, then the immediate, low byte
first (R145). -/
def encode : Instr → List Byte
  | .nop => [0x00]
  | .ldBcNn nn => [0x01, loByte nn, hiByte nn]
  | .ldIndBcA => [0x02]
  | .incBc => [0x03]
  | .incB => [0x04]
  | .decB => [0x05]
  | .ldBN n => [0x06, n]
  | .rlca => [0x07]
  | .ldIndNnSp nn => [0x08, loByte nn, hiByte nn]
  | .addHlBc => [0x09]
  | .ldAIndBc => [0x0A]
  | .decBc => [0x0B]
  | .incC => [0x0C]
  | .decC => [0x0D]
  | .ldCN n => [0x0E, n]
  | .rrca => [0x0F]
  | .stop n => [0x10, n]
  | .ldDeNn nn => [0x11, loByte nn, hiByte nn]
  | .ldIndDeA => [0x12]
  | .incDe => [0x13]
  | .incD => [0x14]
  | .decD => [0x15]
  | .ldDN n => [0x16, n]
  | .rla => [0x17]
  | .jrE8 e => [0x18, e]
  | .addHlDe => [0x19]
  | .ldAIndDe => [0x1A]
  | .decDe => [0x1B]
  | .incE => [0x1C]
  | .decE => [0x1D]
  | .ldEN n => [0x1E, n]
  | .rra => [0x1F]
  | .jrNzE8 e => [0x20, e]
  | .ldHlNn nn => [0x21, loByte nn, hiByte nn]
  | .ldIndHliA => [0x22]
  | .incHl => [0x23]
  | .incH => [0x24]
  | .decH => [0x25]
  | .ldHN n => [0x26, n]
  | .daa => [0x27]
  | .jrZE8 e => [0x28, e]
  | .addHlHl => [0x29]
  | .ldAIndHli => [0x2A]
  | .decHl => [0x2B]
  | .incL => [0x2C]
  | .decL => [0x2D]
  | .ldLN n => [0x2E, n]
  | .cpl => [0x2F]
  | .jrNcE8 e => [0x30, e]
  | .ldSpNn nn => [0x31, loByte nn, hiByte nn]
  | .ldIndHldA => [0x32]
  | .incSp => [0x33]
  | .incIndHl => [0x34]
  | .decIndHl => [0x35]
  | .ldIndHlN n => [0x36, n]
  | .scf => [0x37]
  | .jrCE8 e => [0x38, e]
  | .addHlSp => [0x39]
  | .ldAIndHld => [0x3A]
  | .decSp => [0x3B]
  | .incA => [0x3C]
  | .decA => [0x3D]
  | .ldAN n => [0x3E, n]
  | .ccf => [0x3F]
  | .ldBB => [0x40]
  | .ldBC => [0x41]
  | .ldBD => [0x42]
  | .ldBE => [0x43]
  | .ldBH => [0x44]
  | .ldBL => [0x45]
  | .ldBIndHl => [0x46]
  | .ldBA => [0x47]
  | .ldCB => [0x48]
  | .ldCC => [0x49]
  | .ldCD => [0x4A]
  | .ldCE => [0x4B]
  | .ldCH => [0x4C]
  | .ldCL => [0x4D]
  | .ldCIndHl => [0x4E]
  | .ldCA => [0x4F]
  | .ldDB => [0x50]
  | .ldDC => [0x51]
  | .ldDD => [0x52]
  | .ldDE => [0x53]
  | .ldDH => [0x54]
  | .ldDL => [0x55]
  | .ldDIndHl => [0x56]
  | .ldDA => [0x57]
  | .ldEB => [0x58]
  | .ldEC => [0x59]
  | .ldED => [0x5A]
  | .ldEE => [0x5B]
  | .ldEH => [0x5C]
  | .ldEL => [0x5D]
  | .ldEIndHl => [0x5E]
  | .ldEA => [0x5F]
  | .ldHB => [0x60]
  | .ldHC => [0x61]
  | .ldHD => [0x62]
  | .ldHE => [0x63]
  | .ldHH => [0x64]
  | .ldHL => [0x65]
  | .ldHIndHl => [0x66]
  | .ldHA => [0x67]
  | .ldLB => [0x68]
  | .ldLC => [0x69]
  | .ldLD => [0x6A]
  | .ldLE => [0x6B]
  | .ldLH => [0x6C]
  | .ldLL => [0x6D]
  | .ldLIndHl => [0x6E]
  | .ldLA => [0x6F]
  | .ldIndHlB => [0x70]
  | .ldIndHlC => [0x71]
  | .ldIndHlD => [0x72]
  | .ldIndHlE => [0x73]
  | .ldIndHlH => [0x74]
  | .ldIndHlL => [0x75]
  | .halt => [0x76]
  | .ldIndHlA => [0x77]
  | .ldAB => [0x78]
  | .ldAC => [0x79]
  | .ldAD => [0x7A]
  | .ldAE => [0x7B]
  | .ldAH => [0x7C]
  | .ldAL => [0x7D]
  | .ldAIndHl => [0x7E]
  | .ldAA => [0x7F]
  | .addAB => [0x80]
  | .addAC => [0x81]
  | .addAD => [0x82]
  | .addAE => [0x83]
  | .addAH => [0x84]
  | .addAL => [0x85]
  | .addAIndHl => [0x86]
  | .addAA => [0x87]
  | .adcAB => [0x88]
  | .adcAC => [0x89]
  | .adcAD => [0x8A]
  | .adcAE => [0x8B]
  | .adcAH => [0x8C]
  | .adcAL => [0x8D]
  | .adcAIndHl => [0x8E]
  | .adcAA => [0x8F]
  | .subB => [0x90]
  | .subC => [0x91]
  | .subD => [0x92]
  | .subE => [0x93]
  | .subH => [0x94]
  | .subL => [0x95]
  | .subIndHl => [0x96]
  | .subA => [0x97]
  | .sbcAB => [0x98]
  | .sbcAC => [0x99]
  | .sbcAD => [0x9A]
  | .sbcAE => [0x9B]
  | .sbcAH => [0x9C]
  | .sbcAL => [0x9D]
  | .sbcAIndHl => [0x9E]
  | .sbcAA => [0x9F]
  | .andB => [0xA0]
  | .andC => [0xA1]
  | .andD => [0xA2]
  | .andE => [0xA3]
  | .andH => [0xA4]
  | .andL => [0xA5]
  | .andIndHl => [0xA6]
  | .andA => [0xA7]
  | .xorB => [0xA8]
  | .xorC => [0xA9]
  | .xorD => [0xAA]
  | .xorE => [0xAB]
  | .xorH => [0xAC]
  | .xorL => [0xAD]
  | .xorIndHl => [0xAE]
  | .xorA => [0xAF]
  | .orB => [0xB0]
  | .orC => [0xB1]
  | .orD => [0xB2]
  | .orE => [0xB3]
  | .orH => [0xB4]
  | .orL => [0xB5]
  | .orIndHl => [0xB6]
  | .orA => [0xB7]
  | .cpB => [0xB8]
  | .cpC => [0xB9]
  | .cpD => [0xBA]
  | .cpE => [0xBB]
  | .cpH => [0xBC]
  | .cpL => [0xBD]
  | .cpIndHl => [0xBE]
  | .cpA => [0xBF]
  | .retNz => [0xC0]
  | .popBc => [0xC1]
  | .jpNzNn nn => [0xC2, loByte nn, hiByte nn]
  | .jpNn nn => [0xC3, loByte nn, hiByte nn]
  | .callNzNn nn => [0xC4, loByte nn, hiByte nn]
  | .pushBc => [0xC5]
  | .addAN n => [0xC6, n]
  | .rst00 => [0xC7]
  | .retZ => [0xC8]
  | .ret => [0xC9]
  | .jpZNn nn => [0xCA, loByte nn, hiByte nn]
  | .callZNn nn => [0xCC, loByte nn, hiByte nn]
  | .callNn nn => [0xCD, loByte nn, hiByte nn]
  | .adcAN n => [0xCE, n]
  | .rst08 => [0xCF]
  | .retNc => [0xD0]
  | .popDe => [0xD1]
  | .jpNcNn nn => [0xD2, loByte nn, hiByte nn]
  | .illegalD3 => [0xD3]
  | .callNcNn nn => [0xD4, loByte nn, hiByte nn]
  | .pushDe => [0xD5]
  | .subN n => [0xD6, n]
  | .rst10 => [0xD7]
  | .retC => [0xD8]
  | .reti => [0xD9]
  | .jpCNn nn => [0xDA, loByte nn, hiByte nn]
  | .illegalDB => [0xDB]
  | .callCNn nn => [0xDC, loByte nn, hiByte nn]
  | .illegalDD => [0xDD]
  | .sbcAN n => [0xDE, n]
  | .rst18 => [0xDF]
  | .ldhIndNA n => [0xE0, n]
  | .popHl => [0xE1]
  | .ldIndCA => [0xE2]
  | .illegalE3 => [0xE3]
  | .illegalE4 => [0xE4]
  | .pushHl => [0xE5]
  | .andN n => [0xE6, n]
  | .rst20 => [0xE7]
  | .addSpE8 e => [0xE8, e]
  | .jpHl => [0xE9]
  | .ldIndNnA nn => [0xEA, loByte nn, hiByte nn]
  | .illegalEB => [0xEB]
  | .illegalEC => [0xEC]
  | .illegalED => [0xED]
  | .xorN n => [0xEE, n]
  | .rst28 => [0xEF]
  | .ldhAIndN n => [0xF0, n]
  | .popAf => [0xF1]
  | .ldAIndC => [0xF2]
  | .di => [0xF3]
  | .illegalF4 => [0xF4]
  | .pushAf => [0xF5]
  | .orN n => [0xF6, n]
  | .rst30 => [0xF7]
  | .ldHlSpE8 e => [0xF8, e]
  | .ldSpHl => [0xF9]
  | .ldAIndNn nn => [0xFA, loByte nn, hiByte nn]
  | .ei => [0xFB]
  | .illegalFC => [0xFC]
  | .illegalFD => [0xFD]
  | .cpN n => [0xFE, n]
  | .rst38 => [0xFF]
  | .rlcB => [0xCB, 0x00]
  | .rlcC => [0xCB, 0x01]
  | .rlcD => [0xCB, 0x02]
  | .rlcE => [0xCB, 0x03]
  | .rlcH => [0xCB, 0x04]
  | .rlcL => [0xCB, 0x05]
  | .rlcIndHl => [0xCB, 0x06]
  | .rlcA => [0xCB, 0x07]
  | .rrcB => [0xCB, 0x08]
  | .rrcC => [0xCB, 0x09]
  | .rrcD => [0xCB, 0x0A]
  | .rrcE => [0xCB, 0x0B]
  | .rrcH => [0xCB, 0x0C]
  | .rrcL => [0xCB, 0x0D]
  | .rrcIndHl => [0xCB, 0x0E]
  | .rrcA => [0xCB, 0x0F]
  | .rlB => [0xCB, 0x10]
  | .rlC => [0xCB, 0x11]
  | .rlD => [0xCB, 0x12]
  | .rlE => [0xCB, 0x13]
  | .rlH => [0xCB, 0x14]
  | .rlL => [0xCB, 0x15]
  | .rlIndHl => [0xCB, 0x16]
  | .rlA => [0xCB, 0x17]
  | .rrB => [0xCB, 0x18]
  | .rrC => [0xCB, 0x19]
  | .rrD => [0xCB, 0x1A]
  | .rrE => [0xCB, 0x1B]
  | .rrH => [0xCB, 0x1C]
  | .rrL => [0xCB, 0x1D]
  | .rrIndHl => [0xCB, 0x1E]
  | .rrA => [0xCB, 0x1F]
  | .slaB => [0xCB, 0x20]
  | .slaC => [0xCB, 0x21]
  | .slaD => [0xCB, 0x22]
  | .slaE => [0xCB, 0x23]
  | .slaH => [0xCB, 0x24]
  | .slaL => [0xCB, 0x25]
  | .slaIndHl => [0xCB, 0x26]
  | .slaA => [0xCB, 0x27]
  | .sraB => [0xCB, 0x28]
  | .sraC => [0xCB, 0x29]
  | .sraD => [0xCB, 0x2A]
  | .sraE => [0xCB, 0x2B]
  | .sraH => [0xCB, 0x2C]
  | .sraL => [0xCB, 0x2D]
  | .sraIndHl => [0xCB, 0x2E]
  | .sraA => [0xCB, 0x2F]
  | .swapB => [0xCB, 0x30]
  | .swapC => [0xCB, 0x31]
  | .swapD => [0xCB, 0x32]
  | .swapE => [0xCB, 0x33]
  | .swapH => [0xCB, 0x34]
  | .swapL => [0xCB, 0x35]
  | .swapIndHl => [0xCB, 0x36]
  | .swapA => [0xCB, 0x37]
  | .srlB => [0xCB, 0x38]
  | .srlC => [0xCB, 0x39]
  | .srlD => [0xCB, 0x3A]
  | .srlE => [0xCB, 0x3B]
  | .srlH => [0xCB, 0x3C]
  | .srlL => [0xCB, 0x3D]
  | .srlIndHl => [0xCB, 0x3E]
  | .srlA => [0xCB, 0x3F]
  | .bit0B => [0xCB, 0x40]
  | .bit0C => [0xCB, 0x41]
  | .bit0D => [0xCB, 0x42]
  | .bit0E => [0xCB, 0x43]
  | .bit0H => [0xCB, 0x44]
  | .bit0L => [0xCB, 0x45]
  | .bit0IndHl => [0xCB, 0x46]
  | .bit0A => [0xCB, 0x47]
  | .bit1B => [0xCB, 0x48]
  | .bit1C => [0xCB, 0x49]
  | .bit1D => [0xCB, 0x4A]
  | .bit1E => [0xCB, 0x4B]
  | .bit1H => [0xCB, 0x4C]
  | .bit1L => [0xCB, 0x4D]
  | .bit1IndHl => [0xCB, 0x4E]
  | .bit1A => [0xCB, 0x4F]
  | .bit2B => [0xCB, 0x50]
  | .bit2C => [0xCB, 0x51]
  | .bit2D => [0xCB, 0x52]
  | .bit2E => [0xCB, 0x53]
  | .bit2H => [0xCB, 0x54]
  | .bit2L => [0xCB, 0x55]
  | .bit2IndHl => [0xCB, 0x56]
  | .bit2A => [0xCB, 0x57]
  | .bit3B => [0xCB, 0x58]
  | .bit3C => [0xCB, 0x59]
  | .bit3D => [0xCB, 0x5A]
  | .bit3E => [0xCB, 0x5B]
  | .bit3H => [0xCB, 0x5C]
  | .bit3L => [0xCB, 0x5D]
  | .bit3IndHl => [0xCB, 0x5E]
  | .bit3A => [0xCB, 0x5F]
  | .bit4B => [0xCB, 0x60]
  | .bit4C => [0xCB, 0x61]
  | .bit4D => [0xCB, 0x62]
  | .bit4E => [0xCB, 0x63]
  | .bit4H => [0xCB, 0x64]
  | .bit4L => [0xCB, 0x65]
  | .bit4IndHl => [0xCB, 0x66]
  | .bit4A => [0xCB, 0x67]
  | .bit5B => [0xCB, 0x68]
  | .bit5C => [0xCB, 0x69]
  | .bit5D => [0xCB, 0x6A]
  | .bit5E => [0xCB, 0x6B]
  | .bit5H => [0xCB, 0x6C]
  | .bit5L => [0xCB, 0x6D]
  | .bit5IndHl => [0xCB, 0x6E]
  | .bit5A => [0xCB, 0x6F]
  | .bit6B => [0xCB, 0x70]
  | .bit6C => [0xCB, 0x71]
  | .bit6D => [0xCB, 0x72]
  | .bit6E => [0xCB, 0x73]
  | .bit6H => [0xCB, 0x74]
  | .bit6L => [0xCB, 0x75]
  | .bit6IndHl => [0xCB, 0x76]
  | .bit6A => [0xCB, 0x77]
  | .bit7B => [0xCB, 0x78]
  | .bit7C => [0xCB, 0x79]
  | .bit7D => [0xCB, 0x7A]
  | .bit7E => [0xCB, 0x7B]
  | .bit7H => [0xCB, 0x7C]
  | .bit7L => [0xCB, 0x7D]
  | .bit7IndHl => [0xCB, 0x7E]
  | .bit7A => [0xCB, 0x7F]
  | .res0B => [0xCB, 0x80]
  | .res0C => [0xCB, 0x81]
  | .res0D => [0xCB, 0x82]
  | .res0E => [0xCB, 0x83]
  | .res0H => [0xCB, 0x84]
  | .res0L => [0xCB, 0x85]
  | .res0IndHl => [0xCB, 0x86]
  | .res0A => [0xCB, 0x87]
  | .res1B => [0xCB, 0x88]
  | .res1C => [0xCB, 0x89]
  | .res1D => [0xCB, 0x8A]
  | .res1E => [0xCB, 0x8B]
  | .res1H => [0xCB, 0x8C]
  | .res1L => [0xCB, 0x8D]
  | .res1IndHl => [0xCB, 0x8E]
  | .res1A => [0xCB, 0x8F]
  | .res2B => [0xCB, 0x90]
  | .res2C => [0xCB, 0x91]
  | .res2D => [0xCB, 0x92]
  | .res2E => [0xCB, 0x93]
  | .res2H => [0xCB, 0x94]
  | .res2L => [0xCB, 0x95]
  | .res2IndHl => [0xCB, 0x96]
  | .res2A => [0xCB, 0x97]
  | .res3B => [0xCB, 0x98]
  | .res3C => [0xCB, 0x99]
  | .res3D => [0xCB, 0x9A]
  | .res3E => [0xCB, 0x9B]
  | .res3H => [0xCB, 0x9C]
  | .res3L => [0xCB, 0x9D]
  | .res3IndHl => [0xCB, 0x9E]
  | .res3A => [0xCB, 0x9F]
  | .res4B => [0xCB, 0xA0]
  | .res4C => [0xCB, 0xA1]
  | .res4D => [0xCB, 0xA2]
  | .res4E => [0xCB, 0xA3]
  | .res4H => [0xCB, 0xA4]
  | .res4L => [0xCB, 0xA5]
  | .res4IndHl => [0xCB, 0xA6]
  | .res4A => [0xCB, 0xA7]
  | .res5B => [0xCB, 0xA8]
  | .res5C => [0xCB, 0xA9]
  | .res5D => [0xCB, 0xAA]
  | .res5E => [0xCB, 0xAB]
  | .res5H => [0xCB, 0xAC]
  | .res5L => [0xCB, 0xAD]
  | .res5IndHl => [0xCB, 0xAE]
  | .res5A => [0xCB, 0xAF]
  | .res6B => [0xCB, 0xB0]
  | .res6C => [0xCB, 0xB1]
  | .res6D => [0xCB, 0xB2]
  | .res6E => [0xCB, 0xB3]
  | .res6H => [0xCB, 0xB4]
  | .res6L => [0xCB, 0xB5]
  | .res6IndHl => [0xCB, 0xB6]
  | .res6A => [0xCB, 0xB7]
  | .res7B => [0xCB, 0xB8]
  | .res7C => [0xCB, 0xB9]
  | .res7D => [0xCB, 0xBA]
  | .res7E => [0xCB, 0xBB]
  | .res7H => [0xCB, 0xBC]
  | .res7L => [0xCB, 0xBD]
  | .res7IndHl => [0xCB, 0xBE]
  | .res7A => [0xCB, 0xBF]
  | .set0B => [0xCB, 0xC0]
  | .set0C => [0xCB, 0xC1]
  | .set0D => [0xCB, 0xC2]
  | .set0E => [0xCB, 0xC3]
  | .set0H => [0xCB, 0xC4]
  | .set0L => [0xCB, 0xC5]
  | .set0IndHl => [0xCB, 0xC6]
  | .set0A => [0xCB, 0xC7]
  | .set1B => [0xCB, 0xC8]
  | .set1C => [0xCB, 0xC9]
  | .set1D => [0xCB, 0xCA]
  | .set1E => [0xCB, 0xCB]
  | .set1H => [0xCB, 0xCC]
  | .set1L => [0xCB, 0xCD]
  | .set1IndHl => [0xCB, 0xCE]
  | .set1A => [0xCB, 0xCF]
  | .set2B => [0xCB, 0xD0]
  | .set2C => [0xCB, 0xD1]
  | .set2D => [0xCB, 0xD2]
  | .set2E => [0xCB, 0xD3]
  | .set2H => [0xCB, 0xD4]
  | .set2L => [0xCB, 0xD5]
  | .set2IndHl => [0xCB, 0xD6]
  | .set2A => [0xCB, 0xD7]
  | .set3B => [0xCB, 0xD8]
  | .set3C => [0xCB, 0xD9]
  | .set3D => [0xCB, 0xDA]
  | .set3E => [0xCB, 0xDB]
  | .set3H => [0xCB, 0xDC]
  | .set3L => [0xCB, 0xDD]
  | .set3IndHl => [0xCB, 0xDE]
  | .set3A => [0xCB, 0xDF]
  | .set4B => [0xCB, 0xE0]
  | .set4C => [0xCB, 0xE1]
  | .set4D => [0xCB, 0xE2]
  | .set4E => [0xCB, 0xE3]
  | .set4H => [0xCB, 0xE4]
  | .set4L => [0xCB, 0xE5]
  | .set4IndHl => [0xCB, 0xE6]
  | .set4A => [0xCB, 0xE7]
  | .set5B => [0xCB, 0xE8]
  | .set5C => [0xCB, 0xE9]
  | .set5D => [0xCB, 0xEA]
  | .set5E => [0xCB, 0xEB]
  | .set5H => [0xCB, 0xEC]
  | .set5L => [0xCB, 0xED]
  | .set5IndHl => [0xCB, 0xEE]
  | .set5A => [0xCB, 0xEF]
  | .set6B => [0xCB, 0xF0]
  | .set6C => [0xCB, 0xF1]
  | .set6D => [0xCB, 0xF2]
  | .set6E => [0xCB, 0xF3]
  | .set6H => [0xCB, 0xF4]
  | .set6L => [0xCB, 0xF5]
  | .set6IndHl => [0xCB, 0xF6]
  | .set6A => [0xCB, 0xF7]
  | .set7B => [0xCB, 0xF8]
  | .set7C => [0xCB, 0xF9]
  | .set7D => [0xCB, 0xFA]
  | .set7E => [0xCB, 0xFB]
  | .set7H => [0xCB, 0xFC]
  | .set7L => [0xCB, 0xFD]
  | .set7IndHl => [0xCB, 0xFE]
  | .set7A => [0xCB, 0xFF]

/-! The T-cycle counts of the opcode map, as the cells of R146 and the table of R147 print them: (taken, not
taken), equal for an unconditional instruction. The machine does not read them: each meaning carries the
count of its own rule, and the two can be compared. The 0xCB cell prints no count. -/

def cycleRow0 : List (Nat × Nat) :=
  [(4, 4), (12, 12), (8, 8), (8, 8), (4, 4), (4, 4), (8, 8), (4, 4),
   (20, 20), (8, 8), (8, 8), (8, 8), (4, 4), (4, 4), (8, 8), (4, 4)]
def cycleRow1 : List (Nat × Nat) :=
  [(4, 4), (12, 12), (8, 8), (8, 8), (4, 4), (4, 4), (8, 8), (4, 4),
   (12, 12), (8, 8), (8, 8), (8, 8), (4, 4), (4, 4), (8, 8), (4, 4)]
def cycleRow2 : List (Nat × Nat) :=
  [(12, 8), (12, 12), (8, 8), (8, 8), (4, 4), (4, 4), (8, 8), (4, 4),
   (12, 8), (8, 8), (8, 8), (8, 8), (4, 4), (4, 4), (8, 8), (4, 4)]
def cycleRow3 : List (Nat × Nat) :=
  [(12, 8), (12, 12), (8, 8), (8, 8), (12, 12), (12, 12), (12, 12), (4, 4),
   (12, 8), (8, 8), (8, 8), (8, 8), (4, 4), (4, 4), (8, 8), (4, 4)]
def cycleRow4 : List (Nat × Nat) :=
  [(4, 4), (4, 4), (4, 4), (4, 4), (4, 4), (4, 4), (8, 8), (4, 4),
   (4, 4), (4, 4), (4, 4), (4, 4), (4, 4), (4, 4), (8, 8), (4, 4)]
def cycleRow5 : List (Nat × Nat) :=
  [(4, 4), (4, 4), (4, 4), (4, 4), (4, 4), (4, 4), (8, 8), (4, 4),
   (4, 4), (4, 4), (4, 4), (4, 4), (4, 4), (4, 4), (8, 8), (4, 4)]
def cycleRow6 : List (Nat × Nat) :=
  [(4, 4), (4, 4), (4, 4), (4, 4), (4, 4), (4, 4), (8, 8), (4, 4),
   (4, 4), (4, 4), (4, 4), (4, 4), (4, 4), (4, 4), (8, 8), (4, 4)]
def cycleRow7 : List (Nat × Nat) :=
  [(8, 8), (8, 8), (8, 8), (8, 8), (8, 8), (8, 8), (4, 4), (8, 8),
   (4, 4), (4, 4), (4, 4), (4, 4), (4, 4), (4, 4), (8, 8), (4, 4)]
def cycleRow8 : List (Nat × Nat) :=
  [(4, 4), (4, 4), (4, 4), (4, 4), (4, 4), (4, 4), (8, 8), (4, 4),
   (4, 4), (4, 4), (4, 4), (4, 4), (4, 4), (4, 4), (8, 8), (4, 4)]
def cycleRow9 : List (Nat × Nat) :=
  [(4, 4), (4, 4), (4, 4), (4, 4), (4, 4), (4, 4), (8, 8), (4, 4),
   (4, 4), (4, 4), (4, 4), (4, 4), (4, 4), (4, 4), (8, 8), (4, 4)]
def cycleRowA : List (Nat × Nat) :=
  [(4, 4), (4, 4), (4, 4), (4, 4), (4, 4), (4, 4), (8, 8), (4, 4),
   (4, 4), (4, 4), (4, 4), (4, 4), (4, 4), (4, 4), (8, 8), (4, 4)]
def cycleRowB : List (Nat × Nat) :=
  [(4, 4), (4, 4), (4, 4), (4, 4), (4, 4), (4, 4), (8, 8), (4, 4),
   (4, 4), (4, 4), (4, 4), (4, 4), (4, 4), (4, 4), (8, 8), (4, 4)]
def cycleRowC : List (Nat × Nat) :=
  [(20, 8), (12, 12), (16, 12), (16, 16), (24, 12), (16, 16), (8, 8), (16, 16),
   (20, 8), (16, 16), (16, 12), (0, 0), (24, 12), (24, 24), (8, 8), (16, 16)]
def cycleRowD : List (Nat × Nat) :=
  [(20, 8), (12, 12), (16, 12), (4, 4), (24, 12), (16, 16), (8, 8), (16, 16),
   (20, 8), (16, 16), (16, 12), (4, 4), (24, 12), (4, 4), (8, 8), (16, 16)]
def cycleRowE : List (Nat × Nat) :=
  [(12, 12), (12, 12), (8, 8), (4, 4), (4, 4), (16, 16), (8, 8), (16, 16),
   (16, 16), (4, 4), (16, 16), (4, 4), (4, 4), (4, 4), (8, 8), (16, 16)]
def cycleRowF : List (Nat × Nat) :=
  [(12, 12), (12, 12), (8, 8), (4, 4), (4, 4), (16, 16), (8, 8), (16, 16),
   (12, 12), (8, 8), (16, 16), (4, 4), (4, 4), (4, 4), (8, 8), (16, 16)]

/-- The sixteen rows of R146. -/
def cycleRows : List (List (Nat × Nat)) :=
  [cycleRow0, cycleRow1, cycleRow2, cycleRow3, cycleRow4, cycleRow5, cycleRow6, cycleRow7,
   cycleRow8, cycleRow9, cycleRowA, cycleRowB, cycleRowC, cycleRowD, cycleRowE, cycleRowF]

/-- R147: 8 for a register, 12 for `BIT b,(HL)`, 16 for every other (HL) form. -/
def cbCycles (op2 : Byte) : Nat :=
  if fieldZ op2 = 6 then (if fieldX op2 = 1 then 12 else 16) else 8

/-- The printed counts of the instruction whose bytes are `bs`. -/
def cyclesOfBytes (bs : List Byte) : Nat × Nat :=
  let op := bs.getD 0 0
  if op = 0xCB then (cbCycles (bs.getD 1 0), cbCycles (bs.getD 1 0))
  else (cycleRows.getD (op.toNat / 16) []).getD (op.toNat % 16) (0, 0)

/-- The printed counts of an instruction: (taken, not taken). -/
def Instr.cycleCounts (i : Instr) : Nat × Nat := cyclesOfBytes (encode i)

/-! Opcode-table words. -/

/-- The first three bytes of an instruction whose table word is `w`. The table numbers a row of the base page
with the opcode at bits 7..0, and later bytes count on from it. It numbers a row of the CB page with the
prefix as the more significant of its two bytes (R151: "the first byte most significant"), so a 16-bit word
whose bits 15..8 are 0xCB is the CB prefix followed by bits 7..0 (log entry 9). -/
def tableBytes (nbits w : Nat) : Byte × Byte × Byte :=
  let v := w % 2 ^ nbits
  if nbits = 16 ∧ v / 256 = 0xCB then (0xCB, BitVec.ofNat 8 v, 0)
  else (BitVec.ofNat 8 v, BitVec.ofNat 8 (v / 256), BitVec.ofNat 8 (v / 65536))

/-- The instruction the decoder reads from a table word. -/
def decodeTableWord (nbits w : Nat) : Option Instr :=
  let (b0, b1, b2) := tableBytes nbits w
  match decode [b0, b1, b2] with
  | .ok (i, _) => some i
  | .error _ => none

end Sys2Proof
end

