-- ==== Sys2Proof/Machine/Access.lean ====
section
/-! DEFINITION. Access to single registers of the state: the IO bytes by offset (R38), the register pairs as
views (R32), the flag bits of F (R31), and `request` (R9). -/

namespace Sys2Proof.Machine

/-! Offsets of the named IO registers (R38). -/

namespace Io
abbrev joyp : Nat := 0x00
abbrev div : Nat := 0x04
abbrev tima : Nat := 0x05
abbrev tma : Nat := 0x06
abbrev tac : Nat := 0x07
abbrev intFlag : Nat := 0x0F
abbrev nr12 : Nat := 0x12
abbrev nr14 : Nat := 0x14
abbrev nr22 : Nat := 0x17
abbrev nr24 : Nat := 0x19
abbrev nr34 : Nat := 0x1E
abbrev nr42 : Nat := 0x21
abbrev nr44 : Nat := 0x23
abbrev nr50 : Nat := 0x24
abbrev nr51 : Nat := 0x25
abbrev nr52 : Nat := 0x26
abbrev waveRam : Nat := 0x30
abbrev lcdc : Nat := 0x40
abbrev stat : Nat := 0x41
abbrev scy : Nat := 0x42
abbrev scx : Nat := 0x43
abbrev ly : Nat := 0x44
abbrev lyc : Nat := 0x45
abbrev dma : Nat := 0x46
abbrev bgp : Nat := 0x47
abbrev obp0 : Nat := 0x48
abbrev obp1 : Nat := 0x49
abbrev wy : Nat := 0x4A
abbrev wx : Nat := 0x4B
end Io

/-- `v[i]` (R5). -/
def bitOf (v : Byte) (i : Nat) : Bool := v.getLsbD i

/-- `IO[off]`. -/
def State.io (s : State) (off : Nat) : Byte := s.mem.io.read off

/-- `IO[off] <- v`. -/
def State.setIo (s : State) (off : Nat) (v : Byte) : State :=
  { s with mem := { s.mem with io := s.mem.io.write off v } }

/-- `request(k)` (R9): `IO[0x0F] <- IO[0x0F] | (1 << k)`. -/
def request (k : Nat) (s : State) : State := s.setIo Io.intFlag (s.io Io.intFlag ||| (1#8 <<< k))

/-- Replace the CPU registers. -/
def State.setCpu (s : State) (c : Cpu) : State := { s with cpu := c }

/-- `cycles <- n` (R9). -/
def State.withCycles (s : State) (n : Nat) : State := { s with cycles := n }

def State.setA (s : State) (v : Byte) : State := s.setCpu { s.cpu with a := v }
def State.setSp (s : State) (v : Word) : State := s.setCpu { s.cpu with sp := v }
def State.setPc (s : State) (v : Word) : State := s.setCpu { s.cpu with pc := v }

/-! The pairs (R32): the first-named register is the high byte. -/

def State.bc (s : State) : Word := joinBytes s.cpu.b s.cpu.c
def State.de (s : State) : Word := joinBytes s.cpu.d s.cpu.e
def State.hl (s : State) : Word := joinBytes s.cpu.h s.cpu.l
def State.af (s : State) : Word := joinBytes s.cpu.a s.cpu.f

def State.setBc (s : State) (v : Word) : State := s.setCpu { s.cpu with b := hiByte v, c := loByte v }
def State.setDe (s : State) (v : Word) : State := s.setCpu { s.cpu with d := hiByte v, e := loByte v }
def State.setHl (s : State) (v : Word) : State := s.setCpu { s.cpu with h := hiByte v, l := loByte v }

/-- R31, R32: "Every write to F stores `v & 0xF0`". -/
def State.setAf (s : State) (v : Word) : State :=
  s.setCpu { s.cpu with a := hiByte v, f := loByte v &&& 0xF0#8 }

/-! The flags (R6, R31): Z is F[7], N is F[6], H is F[5], C is F[4]. -/

def State.fz (s : State) : Bool := bitOf s.cpu.f 7
def State.fn (s : State) : Bool := bitOf s.cpu.f 6
def State.fh (s : State) : Bool := bitOf s.cpu.f 5
def State.fc (s : State) : Bool := bitOf s.cpu.f 4

/-- F with the given flags; its low nibble is zero (R31). -/
def packFlags (z n h c : Bool) : Byte :=
  (if z then 0x80#8 else 0) ||| (if n then 0x40#8 else 0) ||| (if h then 0x20#8 else 0) ||| (if c then 0x10#8 else 0)

/-- Write the four flags. An instruction passes the old value of a flag it does not name (R35). -/
def State.setFlags (s : State) (z n h c : Bool) : State := s.setCpu { s.cpu with f := packFlags z n h c }

end Sys2Proof.Machine
end

