-- ==== Sys2Proof/Machine/Clock.lean ====
section
/-! DEFINITION. The timer (60_exceptions.md section 7): DIV and TIMA counted from a step's cycles. -/

namespace Sys2Proof.Machine

/-- R44, R544: the T-cycles per TIMA tick that TAC[1:0] selects. -/
def timerPeriod (tac : Byte) : Nat :=
  match (tac.extractLsb' 0 2).toNat with
  | 0 => 1024
  | 1 => 16
  | 2 => 64
  | _ => 256

/-- R44: TAC bit 2. -/
def timerEnabled (s : State) : Bool := bitOf (s.io Io.tac) 2

/-- One TIMA increment, with the reload from TMA and the request when it wraps (R546). -/
def timaIncrement (s : State) : State :=
  if s.io Io.tima = 0xFF#8 then request 2 (s.setIo Io.tima (s.io Io.tma))
  else s.setIo Io.tima (s.io Io.tima + 1)

/-- The DIV part of `timer_tick` (R544, R545): the loop of R544 runs `(divCycles + cycles) / 256` times, and
DIV wraps. -/
def divTick (cycles : Nat) (s : State) : State :=
  let total := s.timer.divCycles + cycles
  { s.setIo Io.div (s.io Io.div + BitVec.ofNat 8 (total / 256)) with
    timer := { s.timer with divCycles := total % 256 } }

/-- The TIMA part of `timer_tick` (R544, R546): nothing while TAC[2] is 0; else the loop of R544 runs
`(timaCycles + cycles) / period` times. -/
def timaTick (cycles : Nat) (s : State) : State :=
  if timerEnabled s then
    let period := timerPeriod (s.io Io.tac)
    let total := s.timer.timaCycles + cycles
    applyTimes timaIncrement (total / period) { s with timer := { s.timer with timaCycles := total % period } }
  else s

/-- `timer_tick(cycles)` (R544). -/
def timerTick (cycles : Nat) (s : State) : State := timaTick cycles (divTick cycles s)

end Sys2Proof.Machine
end

