-- ==== Sys2Proof/Machine/Pad.lean ====
section
/-! DEFINITION. The joypad (60_exceptions.md section 8): eight button latches and two select latches behind
the register JOYP (R40), and the press that requests interrupt 4. -/

namespace Sys2Proof.Machine

/-- The buttons of R16. -/
inductive Button where
  | a | b | select | start | right | left | up | down
  deriving DecidableEq, Repr

/-- Whether a button's latch holds "pressed". -/
def Joypad.pressed (j : Joypad) : Button → Bool
  | .a => j.a
  | .b => j.b
  | .select => j.select
  | .start => j.start
  | .right => j.right
  | .left => j.left
  | .up => j.up
  | .down => j.down

/-- Set a button's latch (R551). -/
def Joypad.setPressed (j : Joypad) (p : Bool) : Button → Joypad
  | .a => { j with a := p }
  | .b => { j with b := p }
  | .select => { j with select := p }
  | .start => { j with start := p }
  | .right => { j with right := p }
  | .left => { j with left := p }
  | .up => { j with up := p }
  | .down => { j with down := p }

/-- Four button lines, bit 0 first, as a nibble in a byte; 1 is pressed. -/
def lines (b0 b1 b2 b3 : Bool) : Byte :=
  (if b0 then 1#8 else 0) ||| (if b1 then 2#8 else 0) ||| (if b2 then 4#8 else 0) ||| (if b3 then 8#8 else 0)

/-- `JoypadRead()` (R552). -/
def Joypad.read (j : Joypad) : Byte :=
  let low := 0x0F#8
  let low := if j.selectButtons then low &&& ~~~(lines j.a j.b j.select j.start) else low
  let low := if j.selectDpad then low &&& ~~~(lines j.right j.left j.up j.down) else low
  0xC0#8 ||| (if j.selectButtons then 0 else 0x20#8) ||| (if j.selectDpad then 0 else 0x10#8) ||| low

/-- `JoypadWrite(v)` (R552). -/
def Joypad.write (j : Joypad) (v : Byte) : Joypad :=
  { j with selectButtons := !bitOf v 5, selectDpad := !bitOf v 4 }

end Sys2Proof.Machine
end

