-- ==== Sys2Proof/Machine/Sound.lean ====
section
/-! DEFINITION. The audio processing unit (55_apu.md): register writes and reads, the frame sequencer, the four
generators and the mixer. -/

namespace Sys2Proof.Machine

/-! ## Fields of the registers (10_state.md section 5.1) -/

/-- R58: an NRx2 byte's volume, direction and period, as a trigger latches them (R474, R479). -/
def Envelope.load (nrx2 : Byte) : Envelope :=
  { volume := nrx2.extractLsb' 4 4, increase := bitOf nrx2 3, period := nrx2.extractLsb' 0 3,
    timer := (nrx2.extractLsb' 0 3).toNat }

/-- R466: the DAC of channel 1, 2 or 4 is on. -/
def dacOn (nrx2 : Byte) : Bool := nrx2 &&& 0xF8#8 != 0

/-- R473: the low byte of a frequency. -/
def freqLow (f : BitVec 11) (v : Byte) : BitVec 11 := (f &&& 0x700#11) ||| v.zeroExtend 11

/-- R473: the high three bits of a frequency. -/
def freqHigh (f : BitVec 11) (v : Byte) : BitVec 11 :=
  (f &&& 0x0FF#11) ||| ((v &&& 0x07#8).zeroExtend 11 <<< 8)

/-- R472: the counter a length load leaves in channels 1, 2 and 4. -/
def lengthLoad64 (v : Byte) : Nat := 64 - (v &&& 0x3F#8).toNat

/-- R472: the counter a length load leaves in channel 3. -/
def lengthLoad256 (v : Byte) : Nat := 256 - v.toNat

/-! ## Periods of the generators (R490) -/

def Square.period (ch : Square) : Nat := (2048 - ch.frequency.toNat) * 4
def Wave.period (ch : Wave) : Nat := (2048 - ch.frequency.toNat) * 2

/-- `noise_period()`. -/
def Noise.period (ch : Noise) : Nat :=
  (if ch.divisor = 0 then 8 else ch.divisor.toNat * 16) <<< ch.shiftAmount.toNat

/-! ## Triggers (R479 to R482). `master` is the master enable. -/

/-- What R479 and R480 share. -/
def Square.trigger (master : Bool) (nrx2 : Byte) (ch : Square) : Square :=
  { ch with
    enabled := ch.enabled || (master && dacOn nrx2)
    frequencyTimer := ch.period
    lengthCounter := if ch.lengthCounter = 0 then 64 else ch.lengthCounter
    envelope := Envelope.load nrx2 }

/-- The sweep line of R479. -/
def Sweep.trigger (freq : BitVec 11) (sw : Sweep) : Sweep :=
  { sw with shadowFrequency := freq, timer := sw.period.toNat }

/-- R481. -/
def Wave.trigger (master : Bool) (ch : Wave) : Wave :=
  { ch with
    enabled := ch.enabled || (master && ch.dacEnabled)
    frequencyTimer := ch.period
    lengthCounter := if ch.lengthCounter = 0 then 256 else ch.lengthCounter
    position := 0 }

/-- R482. -/
def Noise.trigger (master : Bool) (nr42 : Byte) (ch : Noise) : Noise :=
  { ch with
    enabled := ch.enabled || (master && dacOn nr42)
    frequencyTimer := ch.period
    lengthCounter := if ch.lengthCounter = 0 then 64 else ch.lengthCounter
    envelope := Envelope.load nr42
    lfsr := 0x7FFF }

/-! ## Register writes (R470, R471) -/

/-- The registers that a write has an effect in, by offset (R471); every other offset is only stored. -/
inductive ApuReg where
  | nr10 | nr11 | nr12 | nr13 | nr14
  | nr21 | nr22 | nr23 | nr24
  | nr30 | nr31 | nr32 | nr33 | nr34
  | nr41 | nr42 | nr43 | nr44
  | stored
  deriving DecidableEq, Repr

/-- R471, the offset column. -/
def ApuReg.ofOffset (off : Nat) : ApuReg :=
  if off = 0x10 then .nr10
  else if off = 0x11 then .nr11
  else if off = 0x12 then .nr12
  else if off = 0x13 then .nr13
  else if off = 0x14 then .nr14
  else if off = 0x16 then .nr21
  else if off = 0x17 then .nr22
  else if off = 0x18 then .nr23
  else if off = 0x19 then .nr24
  else if off = 0x1A then .nr30
  else if off = 0x1B then .nr31
  else if off = 0x1C then .nr32
  else if off = 0x1D then .nr33
  else if off = 0x1E then .nr34
  else if off = 0x20 then .nr41
  else if off = 0x21 then .nr42
  else if off = 0x22 then .nr43
  else if off = 0x23 then .nr44
  else .stored

/-- R466, R474: a write to NRx2 that turns the DAC off disables the channel. -/
def Square.dacCheck (v : Byte) (ch : Square) : Square := { ch with enabled := ch.enabled && dacOn v }
def Noise.dacCheck (v : Byte) (ch : Noise) : Noise := { ch with enabled := ch.enabled && dacOn v }

/-- R57, R472: duty and length load. -/
def Square.writeDuty (v : Byte) (ch : Square) : Square :=
  { ch with duty := v.extractLsb' 6 2, lengthCounter := lengthLoad64 v }

/-- R475. -/
def Sweep.writeNr10 (v : Byte) (sw : Sweep) : Sweep :=
  { sw with period := v.extractLsb' 4 3, negate := bitOf v 3, shift := v.extractLsb' 0 3 }

/-- R473, R480: NRx4 of a square channel, the frequency first and then the trigger. -/
def Square.writeControl (master : Bool) (nrx2 v : Byte) (ch : Square) : Square :=
  let ch := { ch with frequency := freqHigh ch.frequency v }
  if bitOf v 7 then ch.trigger master nrx2 else ch

/-- The effect of a write to NR14 (R473, R479): the channel, and its sweep when v[7] triggers. -/
def Apu.writeNr14 (nr12 v : Byte) (u : Apu) : Apu :=
  let ch := u.ch1.writeControl u.masterEnable nr12 v
  { u with ch1 := ch, sweep := if bitOf v 7 then u.sweep.trigger ch.frequency else u.sweep }

/-- R477. -/
def Wave.writeNr30 (v : Byte) (ch : Wave) : Wave :=
  { ch with dacEnabled := bitOf v 7, enabled := ch.enabled && bitOf v 7 }

/-- R473, R481. -/
def Wave.writeControl (master : Bool) (v : Byte) (ch : Wave) : Wave :=
  let ch := { ch with frequency := freqHigh ch.frequency v }
  if bitOf v 7 then ch.trigger master else ch

/-- R476. -/
def Noise.writeNr43 (v : Byte) (ch : Noise) : Noise :=
  { ch with shiftAmount := v.extractLsb' 4 4, widthMode := bitOf v 3, divisor := v.extractLsb' 0 3 }

/-- R482. -/
def Noise.writeControl (master : Bool) (nr42 v : Byte) (ch : Noise) : Noise :=
  if bitOf v 7 then ch.trigger master nr42 else ch

/-- The effect of a register write besides storing the byte (R471). `nr12`, `nr22` and `nr42` are the stored
envelope bytes, which a trigger reads. -/
def Apu.writeEffect (nr12 nr22 nr42 : Byte) (r : ApuReg) (v : Byte) (u : Apu) : Apu :=
  match r with
  | .nr10 => { u with sweep := u.sweep.writeNr10 v }
  | .nr11 => { u with ch1 := u.ch1.writeDuty v }
  | .nr12 => { u with ch1 := u.ch1.dacCheck v }
  | .nr13 => { u with ch1 := { u.ch1 with frequency := freqLow u.ch1.frequency v } }
  | .nr14 => u.writeNr14 nr12 v
  | .nr21 => { u with ch2 := u.ch2.writeDuty v }
  | .nr22 => { u with ch2 := u.ch2.dacCheck v }
  | .nr23 => { u with ch2 := { u.ch2 with frequency := freqLow u.ch2.frequency v } }
  | .nr24 => { u with ch2 := u.ch2.writeControl u.masterEnable nr22 v }
  | .nr30 => { u with ch3 := u.ch3.writeNr30 v }
  | .nr31 => { u with ch3 := { u.ch3 with lengthCounter := lengthLoad256 v } }
  | .nr32 => { u with ch3 := { u.ch3 with volume := v.extractLsb' 5 2 } }
  | .nr33 => { u with ch3 := { u.ch3 with frequency := freqLow u.ch3.frequency v } }
  | .nr34 => { u with ch3 := u.ch3.writeControl u.masterEnable v }
  | .nr41 => { u with ch4 := { u.ch4 with lengthCounter := lengthLoad64 v } }
  | .nr42 => { u with ch4 := u.ch4.dacCheck v }
  | .nr43 => { u with ch4 := u.ch4.writeNr43 v }
  | .nr44 => { u with ch4 := u.ch4.writeControl u.masterEnable nr42 v }
  | .stored => u

/-- R483: NR52 sets the master enable, and clearing it disables every channel; no byte is stored. -/
def Apu.writeNr52 (v : Byte) (u : Apu) : Apu :=
  let on := bitOf v 7
  { u with
    masterEnable := on
    ch1 := { u.ch1 with enabled := u.ch1.enabled && on }
    ch2 := { u.ch2 with enabled := u.ch2.enabled && on }
    ch3 := { u.ch3 with enabled := u.ch3.enabled && on }
    ch4 := { u.ch4 with enabled := u.ch4.enabled && on } }

/-- `ApuWrite(off, v)` (R470, R483, R484). -/
def apuWrite (off : Nat) (v : Byte) (s : State) : State :=
  if off = Io.nr52 then { s with apu := s.apu.writeNr52 v }
  else
    let s' := s.setIo off v
    { s' with apu := s'.apu.writeEffect (s'.io Io.nr12) (s'.io Io.nr22) (s'.io Io.nr42) (ApuReg.ofOffset off) v }

/-- R73: the value a read of NR52 returns. -/
def Apu.readNr52 (u : Apu) : Byte :=
  (if u.masterEnable then 0x80#8 else 0) ||| 0x70#8 ||| (if u.ch4.enabled then 8#8 else 0) |||
    (if u.ch3.enabled then 4#8 else 0) ||| (if u.ch2.enabled then 2#8 else 0) ||| (if u.ch1.enabled then 1#8 else 0)

/-- `ApuRead(off)` (R486). -/
def apuRead (s : State) (off : Nat) : Byte := if off = Io.nr52 then s.apu.readNr52 else s.io off

/-! ## The frame sequencer (R452 to R456) -/

/-- One length tick (R453) of a counter and its channel's enable. -/
def lengthStep (lengthEnable enabled : Bool) (counter : Nat) : Bool × Nat :=
  if lengthEnable = true ∧ 0 < counter then (enabled && counter - 1 != 0, counter - 1) else (enabled, counter)

def Square.lengthTick (lengthEnable : Bool) (ch : Square) : Square :=
  let r := lengthStep lengthEnable ch.enabled ch.lengthCounter
  { ch with enabled := r.1, lengthCounter := r.2 }

def Wave.lengthTick (lengthEnable : Bool) (ch : Wave) : Wave :=
  let r := lengthStep lengthEnable ch.enabled ch.lengthCounter
  { ch with enabled := r.1, lengthCounter := r.2 }

def Noise.lengthTick (lengthEnable : Bool) (ch : Noise) : Noise :=
  let r := lengthStep lengthEnable ch.enabled ch.lengthCounter
  { ch with enabled := r.1, lengthCounter := r.2 }

/-- `length_tick()` (R453). -/
def lengthTick (s : State) : State :=
  { s with apu := { s.apu with
      ch1 := s.apu.ch1.lengthTick (bitOf (s.io Io.nr14) 6)
      ch2 := s.apu.ch2.lengthTick (bitOf (s.io Io.nr24) 6)
      ch3 := s.apu.ch3.lengthTick (bitOf (s.io Io.nr34) 6)
      ch4 := s.apu.ch4.lengthTick (bitOf (s.io Io.nr44) 6) } }

/-- R454: the frequency that a sweep computes, before the overflow test. -/
def Sweep.newFrequency (sw : Sweep) : Nat :=
  let d := sw.shadowFrequency.toNat >>> sw.shift.toNat
  if sw.negate then sw.shadowFrequency.toNat - d else sw.shadowFrequency.toNat + d

/-- `sweep_tick()` (R454). -/
def sweepTick (u : Apu) : Apu :=
  if u.sweep.period = 0 then u
  else if 1 < u.sweep.timer then { u with sweep := { u.sweep with timer := u.sweep.timer - 1 } }
  else
    let sw := { u.sweep with timer := u.sweep.period.toNat }
    let nf := u.sweep.newFrequency
    if 2047 < nf then { u with sweep := sw, ch1 := { u.ch1 with enabled := false } }
    else if u.sweep.shift = 0 then { u with sweep := sw }
    else { u with sweep := { sw with shadowFrequency := BitVec.ofNat 11 nf },
                  ch1 := { u.ch1 with frequency := BitVec.ofNat 11 nf } }

/-- One step of a volume toward its direction, clamped to 0..15 (R456). -/
def stepVolume (increase : Bool) (v : BitVec 4) : BitVec 4 :=
  if increase then (if v = 15 then v else v + 1) else (if v = 0 then v else v - 1)

/-- One envelope tick of a channel (R456). -/
def Envelope.tick (e : Envelope) : Envelope :=
  if e.period = 0 then e
  else if 1 < e.timer then { e with timer := e.timer - 1 }
  else { e with timer := e.period.toNat, volume := stepVolume e.increase e.volume }

/-- `envelope_tick()` (R456). -/
def envelopeTick (u : Apu) : Apu :=
  { u with
    ch1 := { u.ch1 with envelope := u.ch1.envelope.tick }
    ch2 := { u.ch2 with envelope := u.ch2.envelope.tick }
    ch4 := { u.ch4 with envelope := u.ch4.envelope.tick } }

/-- `frame_sequencer_step()` (R452): the actions of the current step, then the increment. -/
def frameSequencerStep (s : State) : State :=
  let n := s.apu.frameSequencerStep.toNat
  let s1 := if n % 2 = 0 then lengthTick s else s
  let u1 := if n = 2 ∨ n = 6 then sweepTick s1.apu else s1.apu
  let u2 := if n = 7 then envelopeTick u1 else u1
  { s1 with apu := { u2 with frameSequencerStep := u2.frameSequencerStep + 1 } }

/-! ## The generators (R490 to R495) -/

/-- R490 for one timer: lower it by `cycles`, and while it is 0 or below add `period`. The new timer, and how many
times it was reloaded (log entry 6). -/
def advanceTimer (timer cycles period : Nat) : Nat × Nat :=
  if cycles < timer then (timer - cycles, 0)
  else
    let n := (cycles - timer) / period + 1
    (timer + n * period - cycles, n)

/-- `lfsr_step()` (R492). -/
def lfsrStep (width : Bool) (l : BitVec 15) : BitVec 15 :=
  let b := l.getLsbD 0 != l.getLsbD 1
  let next := (l >>> 1) ||| (if b then 0x4000#15 else 0)
  if width then (next &&& ~~~0x40#15) ||| (if b then 0x40#15 else 0) else next

def Square.advance (cycles : Nat) (ch : Square) : Square :=
  let r := advanceTimer ch.frequencyTimer cycles ch.period
  { ch with frequencyTimer := r.1, dutyPosition := ch.dutyPosition + BitVec.ofNat 3 r.2 }

def Wave.advance (cycles : Nat) (ch : Wave) : Wave :=
  let r := advanceTimer ch.frequencyTimer cycles ch.period
  { ch with frequencyTimer := r.1, position := ch.position + BitVec.ofNat 5 r.2 }

def Noise.advance (cycles : Nat) (ch : Noise) : Noise :=
  let r := advanceTimer ch.frequencyTimer cycles ch.period
  { ch with frequencyTimer := r.1, lfsr := applyTimes (lfsrStep ch.widthMode) r.2 ch.lfsr }

/-- `advance_frequency_timers(cycles)` (R490). -/
def advanceGenerators (cycles : Nat) (u : Apu) : Apu :=
  { u with ch1 := u.ch1.advance cycles, ch2 := u.ch2.advance cycles,
           ch3 := u.ch3.advance cycles, ch4 := u.ch4.advance cycles }

/-- R491: `DUTY[duty]`, position 0 first. -/
def dutyPattern (d : BitVec 2) : List Bool :=
  match d.toNat with
  | 0 => [false, false, false, false, false, false, false, true]
  | 1 => [true, false, false, false, false, false, false, true]
  | 2 => [true, false, false, false, false, true, true, true]
  | _ => [false, true, true, true, true, true, true, false]

/-- R491. -/
def Square.amplitude (ch : Square) : Int :=
  if (dutyPattern ch.duty).getD ch.dutyPosition.toNat false then ch.envelope.volume.toNat
  else -(ch.envelope.volume.toNat : Int)

/-- R74, R495: sample `position` of wave RAM, the high nibble first. -/
def waveSample (s : State) (position : BitVec 5) : Nat :=
  let byte := s.io (Io.waveRam + position.toNat / 2)
  if position.toNat % 2 = 0 then byte.toNat / 16 else byte.toNat % 16

/-- R495. -/
def waveAmplitude (s : State) : Int :=
  let ch := s.apu.ch3
  if ch.volume = 0 then 0 else ((waveSample s ch.position >>> (ch.volume.toNat - 1) : Nat) : Int)

/-- R493. -/
def Noise.amplitude (ch : Noise) : Int :=
  if ch.lfsr.getLsbD 0 then -(ch.envelope.volume.toNat : Int) else ch.envelope.volume.toNat

/-! ## Mixing (R500, R501) -/

/-- `clamp16(v)`. -/
def clamp16 (v : Int) : Int := min 32767 (max (-32768) v)

/-- What a channel adds to one side: its amplitude if it is enabled and panned there. -/
def share (enabled pan : Bool) (amp : Int) : Int := if enabled = true ∧ pan = true then amp else 0

/-- R500: the sum of the four channels on the side whose pan bits in NR51 start at bit `base` (R72). -/
def mixSide (s : State) (base : Nat) : Int :=
  let pan := fun k => bitOf (s.io Io.nr51) (base + k)
  share s.apu.ch1.enabled (pan 0) s.apu.ch1.amplitude + share s.apu.ch2.enabled (pan 1) s.apu.ch2.amplitude +
    share s.apu.ch3.enabled (pan 2) (waveAmplitude s) + share s.apu.ch4.enabled (pan 3) s.apu.ch4.amplitude

/-- R500: the left sample, with NR50[6:4]. -/
def leftSample (s : State) : Int :=
  clamp16 (mixSide s 4 * (((s.io Io.nr50).extractLsb' 4 3).toNat : Int) * Config.audioGain)

/-- R500: the right sample, with NR50[2:0]. -/
def rightSample (s : State) : Int :=
  clamp16 (mixSide s 0 * (((s.io Io.nr50).extractLsb' 0 3).toNat : Int) * Config.audioGain)

/-- `write_frame(l, r)` (R501): a full buffer drops the frame. -/
def Apu.writeFrame (l r : Int) (u : Apu) : Apu :=
  if u.writePos < 2048 then
    { u with
      buffer := (u.buffer.write (2 * u.writePos) (BitVec.ofInt 16 l)).write (2 * u.writePos + 1) (BitVec.ofInt 16 r)
      writePos := u.writePos + 1 }
  else u

/-- `emit_frame()` (R500). -/
def emitFrame (s : State) : State := { s with apu := s.apu.writeFrame (leftSample s) (rightSample s) }

/-! ## The tick (R451) -/

/-- The frame-sequencer part of `apu_tick`: its loop runs `(frameSequencerCycles + cycles) / 8192` times. -/
def frameSequencerTick (cycles : Nat) (s : State) : State :=
  let total := s.apu.frameSequencerCycles + cycles
  applyTimes frameSequencerStep (total / 8192)
    { s with apu := { s.apu with frameSequencerCycles := total % 8192 } }

/-- The sample part of `apu_tick`: its loop runs `(sampleCycles + cycles) / 128` times. -/
def sampleTick (cycles : Nat) (s : State) : State :=
  let total := s.apu.sampleCycles + cycles
  applyTimes emitFrame (total / 128) { s with apu := { s.apu with sampleCycles := total % 128 } }

/-- `apu_tick(cycles)` (R451). -/
def apuTick (cycles : Nat) (s : State) : State :=
  sampleTick cycles (frameSequencerTick cycles { s with apu := advanceGenerators cycles s.apu })

end Sys2Proof.Machine
end

