-- ==== Sys2Proof/Machine/Video.lean ====
section
/-! DEFINITION. The pixel processing unit (50_ppu.md): the mode state machine and the scanline compositor. It
reads VRAM and OAM from their arrays, not through the bus. -/

namespace Sys2Proof.Machine

/-! The registers the PPU reads (R47 to R55). -/

def State.lcdc (s : State) (i : Nat) : Bool := bitOf (s.io Io.lcdc) i

/-- STAT[1:0], the PPU mode (R48). -/
def State.ppuMode (s : State) : BitVec 2 := (s.io Io.stat).extractLsb' 0 2

/-! ## Tiles (R412 to R415) -/

/-- The VRAM byte at a bus address of 0x8000 to 0x9FFF. -/
def State.vramAt (s : State) (a : Nat) : Byte := s.mem.vram.read (a - 0x8000)

/-- R413: the address of a background or window tile. `s8(t) * 16` is added to 0x9000 as a signed number. -/
def tileAddr (s : State) (t : Byte) : Nat :=
  if s.lcdc 4 then 0x8000 + t.toNat * 16 else (0x9000 + t.toInt * 16).toNat

/-- R414: the colour index of column `col` (0 leftmost) of row `row` of the tile at `a`; the first byte of the row
gives bit 0. -/
def tilePixel (s : State) (a row col : Nat) : Shade :=
  let lo := s.vramAt (a + 2 * row)
  let hi := s.vramAt (a + 2 * row + 1)
  BitVec.ofBool (bitOf hi (7 - col)) ++ BitVec.ofBool (bitOf lo (7 - col))

/-- R415: `(palette >> (2 * ci)) & 3`. -/
def shadeOf (palette : Byte) (ci : Shade) : Shade := (palette >>> (2 * ci.toNat)).extractLsb' 0 2

/-- The base of a 32 x 32 tile map (R47, R412, R417). -/
def mapBase (high : Bool) : Nat := if high then 0x9C00 else 0x9800

/-- The colour index at (mx, my) of the 256 x 256 map at `map` (R412). -/
def mapPixel (s : State) (map mx my : Nat) : Shade :=
  tilePixel s (tileAddr s (s.vramAt (map + my / 8 * 32 + mx / 8))) (my % 8) (mx % 8)

/-! ## The three passes (R410), column by column -/

/-- What the background and window passes leave at a column: `bgIndex[x]` (R411) and the framebuffer shade. -/
structure Pixel where
  index : Shade
  shade : Shade
  deriving DecidableEq, Repr

/-- R412, and R416 when LCDC[0] is 0: index 0 and shade 0. -/
def bgPixel (s : State) (ly x : Nat) : Pixel :=
  if s.lcdc 0 then
    let ci := mapPixel s (mapBase (s.lcdc 3)) ((x + (s.io Io.scx).toNat) % 256) ((ly + (s.io Io.scy).toNat) % 256)
    { index := ci, shade := shadeOf (s.io Io.bgp) ci }
  else { index := 0, shade := 0 }

/-- R417: the window covers column `x` of line `ly`. -/
def windowCovers (s : State) (ly x : Nat) : Bool :=
  s.lcdc 5 && decide ((s.io Io.wy).toNat ≤ ly) && decide ((s.io Io.wx).toNat ≤ 166) &&
    decide ((s.io Io.wx).toNat ≤ x + 7)

/-- R417, R418: the window overwrites the background at the columns it covers. -/
def windowPixel (s : State) (ly x : Nat) (under : Pixel) : Pixel :=
  if windowCovers s ly x then
    let ci := mapPixel s (mapBase (s.lcdc 6)) (x + 7 - (s.io Io.wx).toNat) (ly - (s.io Io.wy).toNat)
    { index := ci, shade := shadeOf (s.io Io.bgp) ci }
  else under

/-! ## Sprites (R419 to R425) -/

/-- OAM[k]. -/
def State.oamAt (s : State) (k : Nat) : Byte := s.mem.oam.read k

def spriteHeight (s : State) : Nat := if s.lcdc 2 then 16 else 8

/-- R420: line `ly` meets sprite `i`, whose top line is `OAM[4i] - 16`. -/
def spriteOnLine (s : State) (ly i : Nat) : Bool :=
  decide ((s.oamAt (4 * i)).toNat ≤ ly + 16) && decide (ly + 16 < (s.oamAt (4 * i)).toNat + spriteHeight s)

/-- R420: the selected sprites, in OAM order, at most 10; none while LCDC[1] is 0. -/
def selectSprites (s : State) (ly : Nat) : List Nat :=
  if s.lcdc 1 then ((List.range 40).filter (spriteOnLine s ly)).take 10 else []

/-- R425: sprite `i` is drawn before sprite `j`, so that `j` wins where both are opaque. -/
def drawnBefore (p : SpritePriority) (s : State) (i j : Nat) : Bool :=
  match p with
  | .xThenOam =>
    let xi := (s.oamAt (4 * i + 1)).toNat
    let xj := (s.oamAt (4 * j + 1)).toNat
    decide (xj < xi) || (decide (xi = xj) && decide (j < i))
  | .oamOrder => decide (j < i)

/-- Place a sprite among sprites already in drawing order. -/
def placeSprite (p : SpritePriority) (s : State) (i : Nat) : List Nat → List Nat
  | [] => [i]
  | j :: t => if drawnBefore p s i j then i :: j :: t else j :: placeSprite p s i t

/-- R425: the selected sprites in drawing order. -/
def drawOrder (p : SpritePriority) (s : State) (sel : List Nat) : List Nat :=
  sel.foldr (placeSprite p s) []

/-- R421: the row of the sprite's tiles that line `ly` shows, with Y-flip. -/
def spriteRow (s : State) (ly i : Nat) : Nat :=
  let row := ly + 16 - (s.oamAt (4 * i)).toNat
  if bitOf (s.oamAt (4 * i + 3)) 6 then spriteHeight s - 1 - row else row

/-- R421: the address of the sprite's tile; the low bit of the index is masked for tall sprites. -/
def spriteTileAddr (s : State) (i : Nat) : Nat :=
  let t := s.oamAt (4 * i + 2)
  0x8000 + (if s.lcdc 2 then t &&& 0xFE#8 else t).toNat * 16

/-- R422: the colour index of sprite `i` at screen column `x`, or none where the sprite does not reach. -/
def spriteIndex (s : State) (ly i x : Nat) : Option Shade :=
  let left := (s.oamAt (4 * i + 1)).toNat
  if left ≤ x + 8 ∧ x < left then
    let c := x + 8 - left
    some (tilePixel s (spriteTileAddr s i) (spriteRow s ly i) (if bitOf (s.oamAt (4 * i + 3)) 5 then 7 - c else c))
  else none

/-- R424. -/
def spritePalette (s : State) (i : Nat) : Byte :=
  if bitOf (s.oamAt (4 * i + 3)) 4 then s.io Io.obp1 else s.io Io.obp0

/-- R422, R423: draw sprite `i` at column `x` over the shade there; index 0 is transparent, and a sprite with flag
bit 7 stays behind a background or window pixel whose colour index is not 0. -/
def drawSprite (s : State) (ly x : Nat) (bgIndex : Shade) (under : Shade) (i : Nat) : Shade :=
  match spriteIndex s ly i x with
  | none => under
  | some ci =>
    if ci = 0 then under
    else if bitOf (s.oamAt (4 * i + 3)) 7 = true ∧ bgIndex ≠ 0 then under
    else shadeOf (spritePalette s i) ci

/-- The shade the three passes leave at column `x` of line `ly` (R410), sprites drawn in the order `order`. -/
def linePixel (s : State) (ly : Nat) (order : List Nat) (x : Nat) : Shade :=
  let p := windowPixel s ly x (bgPixel s ly x)
  order.foldl (drawSprite s ly x p.index) p.shade

/-- `render_line(ly)` (R410): entries `ly * 160` to `ly * 160 + 159` of the framebuffer. -/
def renderLine (ly : Nat) (s : State) : State :=
  let order := drawOrder Config.spritePriority s (selectSprites s ly)
  { s with ppu := { s.ppu with
      framebuffer := s.ppu.framebuffer.writeRange (ly * 160) (linePixel s ly order) 160 } }

/-! ## The mode state machine (R401 to R407) -/

/-- `STAT[1:0] <- m`, the rest kept. -/
def putMode (m : BitVec 2) (s : State) : State :=
  s.setIo Io.stat ((s.io Io.stat &&& 0xFC#8) ||| m.zeroExtend 8)

/-- R404: a STAT source is enabled for entering mode `m`; mode 3 has none. -/
def statSource (stat : Byte) (m : BitVec 2) : Bool :=
  (m == 0 && bitOf stat 3) || (m == 1 && bitOf stat 4) || (m == 2 && bitOf stat 5)

/-- `set_mode(m)` (R404). -/
def setMode (m : BitVec 2) (s : State) : State :=
  if statSource (s.io Io.stat) m then request 1 (putMode m s) else putMode m s

/-- `lyc_compare()` (R407). -/
def lycCompare (s : State) : State :=
  if s.io Io.ly = s.io Io.lyc then
    let s' := s.setIo Io.stat (s.io Io.stat ||| 0x04#8)
    if bitOf (s.io Io.stat) 6 then request 1 s' else s'
  else s.setIo Io.stat (s.io Io.stat &&& 0xFB#8)

def State.setScanlineCycles (s : State) (n : Nat) : State := { s with ppu := { s.ppu with scanlineCycles := n } }

/-- R403, mode 2 done: Drawing. -/
def endOamSearch (s : State) : State := setMode 3 (s.setScanlineCycles (s.ppu.scanlineCycles - 80))

/-- R403, mode 3 done: HBlank, and the line is rendered. -/
def endDrawing (s : State) : State :=
  let s' := setMode 0 (s.setScanlineCycles (s.ppu.scanlineCycles - 172))
  if (s.io Io.ly).toNat < 144 then renderLine (s.io Io.ly).toNat s' else s'

/-- R403, R405, mode 0 done: the next line, or VBlank when LY becomes 144. -/
def endHBlank (s : State) : State :=
  let s1 := s.setScanlineCycles (s.ppu.scanlineCycles - 204)
  let s2 := lycCompare (s1.setIo Io.ly (s.io Io.ly + 1))
  if s.io Io.ly + 1 = 144#8 then
    let s3 := request 0 (setMode 1 s2)
    { s3 with ppu := { s3.ppu with frameReady := true } }
  else setMode 2 s2

/-- R403, R406, one VBlank line done: the next one, or line 0 in mode 2. -/
def endVBlankLine (s : State) : State :=
  let s1 := s.setScanlineCycles (s.ppu.scanlineCycles - 456)
  if (s.io Io.ly).toNat < 144 ∨ 153 ≤ (s.io Io.ly).toNat then lycCompare (setMode 2 (s1.setIo Io.ly 0))
  else lycCompare (s1.setIo Io.ly (s.io Io.ly + 1))

/-- R401: the T-cycles a mode lasts (one line, for VBlank). -/
def modeLength (m : BitVec 2) : Nat :=
  match m.toNat with
  | 0 => 204
  | 1 => 456
  | 2 => 80
  | _ => 172

/-- What happens when the mode's length has passed (R403). -/
def endMode (s : State) : State :=
  match s.ppuMode.toNat with
  | 0 => endHBlank s
  | 1 => endVBlankLine s
  | 2 => endOamSearch s
  | _ => endDrawing s

/-- The loop of R403. Each turn takes at least 80 from `scanline_cycles`, so a bound of that many turns is never
reached (log entry 7). -/
def ppuLoop : Nat → State → State
  | 0, s => s
  | n + 1, s => if modeLength s.ppuMode ≤ s.ppu.scanlineCycles then ppuLoop n (endMode s) else s

/-- `ppu_tick(cycles)` (R402, R403). -/
def ppuTick (cycles : Nat) (s : State) : State :=
  if s.lcdc 7 then
    let total := s.ppu.scanlineCycles + cycles
    ppuLoop total (s.setScanlineCycles total)
  else (s.setIo Io.ly 0).setScanlineCycles 0

end Sys2Proof.Machine
end

