-- ==== Sys2Proof/Machine/Ops.lean ====
section
/-! DEFINITION. The operations that instructions are made of: the bus (20_memory.md), the stack and the fetch
(00_scope.md R7, R8), and the one exception the machine takes, interrupt dispatch, with the return from it
(60_exceptions.md, 47_call_return.md R324). -/

namespace Sys2Proof.Machine

/-! ## The address map (R80, R81) -/

/-- What a bus address selects, with the index inside it: the rows of R81 and R82. -/
inductive Region where
  | rom (a : Nat)
  | vram (i : Nat)
  | cartRam (i : Nat)
  | wram (i : Nat)
  | oam (i : Nat)
  | unusable
  | joyp
  | apu (off : Nat)
  | io (off : Nat)
  | hram (i : Nat)
  | ie
  deriving DecidableEq, Repr

/-- R81, the first matching row. The echo (R83) selects the WRAM byte it aliases. -/
def region (a : Word) : Region :=
  let n := a.toNat
  if n < 0x8000 then .rom n
  else if n < 0xA000 then .vram (n - 0x8000)
  else if n < 0xC000 then .cartRam (n - 0xA000)
  else if n < 0xE000 then .wram (n - 0xC000)
  else if n < 0xFE00 then .wram (n - 0xE000)
  else if n < 0xFEA0 then .oam (n - 0xFE00)
  else if n < 0xFF00 then .unusable
  else if n = 0xFF00 then .joyp
  else if 0xFF10 ≤ n ∧ n < 0xFF40 then .apu (n - 0xFF00)
  else if n < 0xFF80 then .io (n - 0xFF00)
  else if n < 0xFFFF then .hram (n - 0xFF80)
  else .ie

/-! ## Reads -/

/-- R84: the moment at which `VramMode3Read` matters. -/
def vramReadBlocked (s : State) : Bool := s.lcdc 7 && s.ppuMode == 3

/-- R84, with the parameter as an argument. -/
def vramRead (p : VramMode3Read) (s : State) (i : Nat) : Byte :=
  if vramReadBlocked s then
    match p with
    | .passThrough => s.mem.vram.read i
    | .returnFF => 0xFF#8
  else s.mem.vram.read i

/-- The value a region gives (R81). -/
def readRegion (s : State) : Region → Byte
  | .rom a => s.cart.read a
  | .vram i => vramRead Config.vramMode3Read s i
  | .cartRam i => s.cart.ramRead i
  | .wram i => s.mem.wram.read i
  | .oam i => s.mem.oam.read i
  | .unusable => 0xFF#8
  | .joyp => s.joypad.read
  | .apu off => apuRead s off
  | .io off => s.io off
  | .hram i => s.mem.hram.read i
  | .ie => s.mem.ie

/-- `MemRead(a, 1)` (R7, R81). It changes no state. -/
def memRead (s : State) (a : Word) : Byte := readRegion s (region a)

/-! ## Writes -/

def State.setVram (s : State) (i : Nat) (v : Byte) : State := { s with mem := { s.mem with vram := s.mem.vram.write i v } }
def State.setWram (s : State) (i : Nat) (v : Byte) : State := { s with mem := { s.mem with wram := s.mem.wram.write i v } }
def State.setOam (s : State) (i : Nat) (v : Byte) : State := { s with mem := { s.mem with oam := s.mem.oam.write i v } }
def State.setHram (s : State) (i : Nat) (v : Byte) : State := { s with mem := { s.mem with hram := s.mem.hram.write i v } }
def State.setIe (s : State) (v : Byte) : State := { s with mem := { s.mem with ie := v } }

/-- The first `n` turns of the loop of R88: each reads the bus as the turns before it have left it. -/
def dmaCopy (v : Byte) : Nat → State → State
  | 0, s => s
  | n + 1, s =>
    let s' := dmaCopy v n s
    s'.setOam n (memRead s' (joinBytes v 0 + BitVec.ofNat 16 n))

/-- A write to DMA (R53, R88): store the byte, then copy 160 bytes. -/
def oamDma (v : Byte) (s : State) : State := dmaCopy v 160 (s.setIo Io.dma v)

/-- The value a CPU write leaves in STAT: only bits 6:3 change (R48). -/
def statWritten (old v : Byte) : Byte := (old &&& 0x87#8) ||| (v &&& 0x78#8)

/-- A write to an IO byte outside JOYP and the APU (R82): DIV is cleared (R41), STAT is masked (R48), DMA copies
(R88), every other byte is stored (R38). -/
def ioWrite (off : Nat) (v : Byte) (s : State) : State :=
  if off = Io.div then s.setIo Io.div 0
  else if off = Io.stat then s.setIo Io.stat (statWritten (s.io Io.stat) v)
  else if off = Io.dma then oamDma v s
  else s.setIo off v

/-- The effect of a write on a region (R82). -/
def writeRegion (v : Byte) (s : State) : Region → State
  | .rom a => { s with cart := s.cart.write a v }
  | .vram i => s.setVram i v
  | .cartRam i => { s with cart := s.cart.ramWrite i v }
  | .wram i => s.setWram i v
  | .oam i => s.setOam i v
  | .unusable => s
  | .joyp => { s with joypad := s.joypad.write v }
  | .apu off => apuWrite off v s
  | .io off => ioWrite off v s
  | .hram i => s.setHram i v
  | .ie => s.setIe v

/-- `MemWrite(a, 1, v)` (R7, R82). -/
def memWrite (s : State) (a : Word) (v : Byte) : State := writeRegion v s (region a)

/-! ## The stack (R8) -/

/-- `push16(v)`: the high byte at SP-1 first, then the low byte at SP-2. -/
def push16 (v : Word) (s : State) : State :=
  let s1 := memWrite (s.setSp (s.cpu.sp - 1)) (s.cpu.sp - 1) (hiByte v)
  memWrite (s1.setSp (s1.cpu.sp - 1)) (s1.cpu.sp - 1) (loByte v)

/-- The value `pop16()` returns: the low byte at SP, the high byte at SP + 1. -/
def popValue (s : State) : Word := joinBytes (memRead s (s.cpu.sp + 1)) (memRead s s.cpu.sp)

/-- SP after `pop16()`. -/
def popSp (s : State) : State := s.setSp (s.cpu.sp + 2)

/-! ## Interrupts: the one exception of the machine (60_exceptions.md) -/

/-- R522: the pending set, `IF & IE & 0x1F`. -/
def pending (s : State) : Byte := s.io Io.intFlag &&& s.mem.ie &&& 0x1F#8

/-- R521, R523: the lowest bit number set in a pending set that is not empty. -/
def lowestPending (p : Byte) : Nat :=
  if bitOf p 0 then 0 else if bitOf p 1 then 1 else if bitOf p 2 then 2 else if bitOf p 3 then 3 else 4

/-- R521: the vector of interrupt k. -/
def vectorOf (k : Nat) : Word := 0x0040#16 + BitVec.ofNat 16 (8 * k)

/-- Take interrupt `k` (R525): clear its IF bit and `ime`, push PC, go to the vector, clear `halted`, 20 cycles. The
IF bit is cleared and the vector chosen before the push. -/
def takeInterrupt (k : Nat) (s : State) : State :=
  let s1 := s.setIo Io.intFlag (s.io Io.intFlag &&& ~~~(1#8 <<< k))
  let s2 := s1.setCpu { s1.cpu with ime := false }
  let s3 := push16 s2.cpu.pc s2
  (s3.setCpu { s3.cpu with pc := vectorOf k, halted := false }).withCycles 20

/-- `dispatch()` (R525), for the pending interrupt of highest priority. -/
def dispatch (s : State) : State := takeInterrupt (lowestPending (pending s)) s

/-- The return from an interrupt (R324): PC from the stack, `ime` true at once, no scheduled enable. -/
def returnFromInterrupt (s : State) : State :=
  let s1 := (popSp s).setPc (popValue s)
  s1.setCpu { s1.cpu with ime := true, imeScheduled := false }

/-! ## The fetch (R7, R340) -/

/-- The three bytes from PC on, read through the bus. Reads have no effect (R81), so reading past a short
instruction is not observable (log entry 5). With `halt_bug` set the opcode fetch does not advance PC, so the
byte at PC is read again as the next one (R343). -/
def fetchBytes (s : State) : Byte × Byte × Byte :=
  let pc := s.cpu.pc
  if s.cpu.haltBug then (memRead s pc, memRead s pc, memRead s (pc + 1))
  else (memRead s pc, memRead s (pc + 1), memRead s (pc + 2))

/-- The instruction at PC (R150, R340). -/
def fetchInstr (s : State) : Instr :=
  let (b0, b1, b2) := fetchBytes s
  decodeBytes b0 b1 b2

/-- PC past the instruction's bytes (R34), and `halt_bug` cleared by the opcode fetch (R343). -/
def advancePc (s : State) : State :=
  let n := opcodeLength (fetchBytes s).1
  let n := if s.cpu.haltBug then n - 1 else n
  s.setCpu { s.cpu with pc := s.cpu.pc + BitVec.ofNat 16 n, haltBug := false }

/-- The start of `cpu_step` (R340): a scheduled enable takes effect. -/
def promoteIme (s : State) : State :=
  if s.cpu.imeScheduled then s.setCpu { s.cpu with ime := true, imeScheduled := false } else s

/-- R530, R533: without `ime`, a pending request releases HALT without servicing. -/
def releaseHalt (s : State) : State :=
  if !s.cpu.locked && !s.cpu.ime && s.cpu.halted && pending s != 0 then s.setCpu { s.cpu with halted := false } else s

/-- R530: this machine step takes an interrupt. -/
def interruptTaken (s : State) : Bool := !s.cpu.locked && s.cpu.ime && pending s != 0

/-- The devices consume the step's cycles, in the order PPU, timer, APU (R530). -/
def tickDevices (s : State) : State := apuTick s.cycles (timerTick s.cycles (ppuTick s.cycles s))

end Sys2Proof.Machine
end

