-- ==== Sys2Proof/Machine/Operands.lean ====
section
/-! DEFINITION. The operand forms of 30_encoding.md R142 to R145. -/

namespace Sys2Proof.Machine

/-- `reg8(r)` (R142): a register, or the byte the bus gives at HL. -/
def operand8 (r : Operand8) (s : State) : Byte :=
  match r with
  | .b => s.cpu.b
  | .c => s.cpu.c
  | .d => s.cpu.d
  | .e => s.cpu.e
  | .h => s.cpu.h
  | .l => s.cpu.l
  | .indHl => memRead s s.hl
  | .a => s.cpu.a

/-- `reg8(r) <- v` (R142). -/
def setOperand8 (r : Operand8) (v : Byte) (s : State) : State :=
  match r with
  | .b => s.setCpu { s.cpu with b := v }
  | .c => s.setCpu { s.cpu with c := v }
  | .d => s.setCpu { s.cpu with d := v }
  | .e => s.setCpu { s.cpu with e := v }
  | .h => s.setCpu { s.cpu with h := v }
  | .l => s.setCpu { s.cpu with l := v }
  | .indHl => memWrite s s.hl v
  | .a => s.setCpu { s.cpu with a := v }

/-- `reg16(p)` (R143). -/
def pairValue (p : Pair) (s : State) : Word :=
  match p with
  | .bc => s.bc
  | .de => s.de
  | .hl => s.hl
  | .sp => s.cpu.sp

/-- `reg16(p) <- v` (R143). -/
def setPair (p : Pair) (v : Word) (s : State) : State :=
  match p with
  | .bc => s.setBc v
  | .de => s.setDe v
  | .hl => s.setHl v
  | .sp => s.setSp v

/-- `reg16s(p)` (R143). -/
def stackPairValue (p : StackPair) (s : State) : Word :=
  match p with
  | .bc => s.bc
  | .de => s.de
  | .hl => s.hl
  | .af => s.af

/-- `reg16s(p) <- v` (R143); writing AF drops the low nibble of F (R265). -/
def setStackPair (p : StackPair) (v : Word) (s : State) : State :=
  match p with
  | .bc => s.setBc v
  | .de => s.setDe v
  | .hl => s.setHl v
  | .af => s.setAf v

/-- `cond(cc)` (R144). -/
def condHolds (cc : Cond) (s : State) : Bool :=
  match cc with
  | .nz => !s.fz
  | .z => s.fz
  | .nc => !s.fc
  | .c => s.fc

/-- The `y` field's number. -/
def indexNat : Index8 → Nat
  | .i0 => 0
  | .i1 => 1
  | .i2 => 2
  | .i3 => 3
  | .i4 => 4
  | .i5 => 5
  | .i6 => 6
  | .i7 => 7

/-- R145: the high-page address `0xFF00 + n`. -/
def highPage (n : Byte) : Word := 0xFF00#16 + n.zeroExtend 16

/-- R145: the RST target `y * 8`. -/
def rstTarget (y : Index8) : Word := BitVec.ofNat 16 (8 * indexNat y)

/-- The cost of an operand: `reg` for a register, `mem` for (HL) (R230, R360). -/
def costOf (r : Operand8) (reg mem : Nat) : Nat := if r = .indHl then mem else reg

end Sys2Proof.Machine
end

