-- ==== Sys2Proof/Machine/Flags.lean ====
section
/-! DEFINITION. Results and flags of the arithmetic: 42_alu8.md R230 to R241, 44_alu16.md R280 and R283,
45_rotate_a.md, 48_misc_control.md R346 and 49_cb_prefix.md R361 to R368. The sums are computed on unbounded
numbers (R5) and then narrowed. -/

namespace Sys2Proof.Machine

/-- A result byte and the four flags. -/
structure AluResult where
  value : Byte
  z : Bool
  n : Bool
  h : Bool
  c : Bool
  deriving DecidableEq, Repr

/-- `add8(a, s, c)` (R230). -/
def add8 (a s : Byte) (c : Bool) : AluResult :=
  let t := a.toNat + s.toNat + c.toNat
  { value := BitVec.ofNat 8 t, z := t % 256 == 0, n := false,
    h := decide (0x0F < a.toNat % 16 + s.toNat % 16 + c.toNat), c := decide (0xFF < t) }

/-- `sub8(a, s, c)` (R230). -/
def sub8 (a s : Byte) (c : Bool) : AluResult :=
  let t : Int := (a.toNat : Int) - s.toNat - c.toNat
  { value := BitVec.ofInt 8 t, z := t % 256 == 0, n := true,
    h := decide (a.toNat % 16 < s.toNat % 16 + c.toNat), c := decide (t < 0) }

/-- A logic result (R235 to R237): Z from the result, N = 0, C = 0, H as given. -/
def logic8 (v : Byte) (h : Bool) : AluResult := { value := v, z := v == 0, n := false, h := h, c := false }

/-- The eight operations (R231 to R238); for CP the value is the one that is discarded. -/
def aluResult (op : AluOp) (a s : Byte) (c : Bool) : AluResult :=
  match op with
  | .add => add8 a s false
  | .adc => add8 a s c
  | .sub => sub8 a s false
  | .sbc => sub8 a s c
  | .and => logic8 (a &&& s) true
  | .xor => logic8 (a ^^^ s) false
  | .or => logic8 (a ||| s) false
  | .cp => sub8 a s false

/-- INC of a byte (R239): C is kept, here given. -/
def incResult (old : Byte) (c : Bool) : AluResult :=
  { value := old + 1, z := old + 1 == 0, n := false, h := old &&& 0x0F#8 == 0x0F#8, c := c }

/-- DEC of a byte (R241). -/
def decResult (old : Byte) (c : Bool) : AluResult :=
  { value := old - 1, z := old - 1 == 0, n := true, h := old &&& 0x0F#8 == 0x00#8, c := c }

/-- Write the flags of a result. -/
def setResultFlags (r : AluResult) (s : State) : State := s.setFlags r.z r.n r.h r.c

/-- R280: the sum, the carry from bit 11 and the carry from bit 15. -/
def add16 (a s : Word) : Word × Bool × Bool :=
  (a + s, decide (0x0FFF < a.toNat % 4096 + s.toNat % 4096), decide (0xFFFF < a.toNat + s.toNat))

/-- R283: SP plus the signed displacement, with the unsigned carries from bits 3 and 7 of the raw byte's sum. -/
def addDisplacement (sp : Word) (e : Byte) : Word × Bool × Bool :=
  (sp + sext16 e, decide (0x0F < sp.toNat % 16 + e.toNat % 16), decide (0xFF < sp.toNat % 256 + e.toNat))

/-- The carry of a rotate or shift (R361 to R368): the bit shifted out; SWAP clears it. -/
def rotCarry (op : RotOp) (v : Byte) : Bool :=
  match op with
  | .rlc => bitOf v 7
  | .rrc => bitOf v 0
  | .rl => bitOf v 7
  | .rr => bitOf v 0
  | .sla => bitOf v 7
  | .sra => bitOf v 0
  | .swap => false
  | .srl => bitOf v 0

/-- The result of a rotate or shift (R361 to R368), with the carry flag `c` before it. -/
def rotValue (op : RotOp) (v : Byte) (c : Bool) : Byte :=
  match op with
  | .rlc => (v <<< 1) ||| (if bitOf v 7 then 0x01#8 else 0)
  | .rrc => (v >>> 1) ||| (if bitOf v 0 then 0x80#8 else 0)
  | .rl => (v <<< 1) ||| (if c then 0x01#8 else 0)
  | .rr => (v >>> 1) ||| (if c then 0x80#8 else 0)
  | .sla => v <<< 1
  | .sra => (v >>> 1) ||| (v &&& 0x80#8)
  | .swap => ((v &&& 0x0F#8) <<< 4) ||| (v >>> 4)
  | .srl => v >>> 1

/-- R346: A and C after DAA. -/
def daaAdjust (a : Byte) (n h c : Bool) : Byte × Bool :=
  if n then
    let a1 := if c then a - 0x60#8 else a
    (if h then a1 - 0x06#8 else a1, c)
  else
    let high := c || decide (0x99 < a.toNat)
    let a1 := if high then a + 0x60#8 else a
    (if h || decide (0x09 < (a1 &&& 0x0F#8).toNat) then a1 + 0x06#8 else a1, high)

end Sys2Proof.Machine
end

