-- ==== Sys2Proof/Machine/Alu16.lean ====
section
/-! DEFINITION. 16-bit arithmetic (44_alu16.md). -/

namespace Sys2Proof.Machine

/-- R280: Z is kept. -/
def addHlPair (p : Pair) (s : State) : State :=
  let (v, h, c) := add16 s.hl (pairValue p s)
  ((s.setFlags s.fz false h c).setHl v).withCycles 8

/-- R281: no flag changes. -/
def incPair (p : Pair) (s : State) : State := (setPair p (pairValue p s + 1) s).withCycles 8

/-- R282: no flag changes. -/
def decPair (p : Pair) (s : State) : State := (setPair p (pairValue p s - 1) s).withCycles 8

/-- R283. -/
def addSp (e : Byte) (s : State) : State :=
  let (v, h, c) := addDisplacement s.cpu.sp e
  ((s.setFlags false false h c).setSp v).withCycles 16

/-- R284: SP is unchanged. -/
def loadHlSp (e : Byte) (s : State) : State :=
  let (v, h, c) := addDisplacement s.cpu.sp e
  ((s.setFlags false false h c).setHl v).withCycles 12

/-- `INC BC`: R281. -/
def execIncBc (s : State) : Result := .next (incPair .bc s)

/-- `ADD HL,BC`: R280. -/
def execAddHlBc (s : State) : Result := .next (addHlPair .bc s)

/-- `DEC BC`: R282. -/
def execDecBc (s : State) : Result := .next (decPair .bc s)

/-- `INC DE`: R281. -/
def execIncDe (s : State) : Result := .next (incPair .de s)

/-- `ADD HL,DE`: R280. -/
def execAddHlDe (s : State) : Result := .next (addHlPair .de s)

/-- `DEC DE`: R282. -/
def execDecDe (s : State) : Result := .next (decPair .de s)

/-- `INC HL`: R281. -/
def execIncHl (s : State) : Result := .next (incPair .hl s)

/-- `ADD HL,HL`: R280. -/
def execAddHlHl (s : State) : Result := .next (addHlPair .hl s)

/-- `DEC HL`: R282. -/
def execDecHl (s : State) : Result := .next (decPair .hl s)

/-- `INC SP`: R281. -/
def execIncSp (s : State) : Result := .next (incPair .sp s)

/-- `ADD HL,SP`: R280. -/
def execAddHlSp (s : State) : Result := .next (addHlPair .sp s)

/-- `DEC SP`: R282. -/
def execDecSp (s : State) : Result := .next (decPair .sp s)

/-- `ADD SP,e`: R283. -/
def execAddSpE8 (e : Byte) (s : State) : Result := .next (addSp e s)

/-- `LD HL,SP+e`: R284. -/
def execLdHlSpE8 (e : Byte) (s : State) : Result := .next (loadHlSp e s)

end Sys2Proof.Machine
end

