-- ==== Sys2Proof/Machine/Alu8.lean ====
section
/-! DEFINITION. 8-bit arithmetic and logic (42_alu8.md). -/

namespace Sys2Proof.Machine

/-- R231 to R238: A from the operation, except that CP leaves A; the four flags from it. -/
def aluOnA (op : AluOp) (src : Byte) (s : State) : State :=
  let r := aluResult op s.cpu.a src s.fc
  setResultFlags r (if op = .cp then s else s.setA r.value)

/-- R230: the operation with `reg8(r)`; 4 cycles for a register, 8 for (HL). -/
def aluOperand (op : AluOp) (r : Operand8) (s : State) : State :=
  (aluOnA op (operand8 r s) s).withCycles (costOf r 4 8)

/-- R230: the operation with an immediate; 8 cycles. -/
def aluImm8 (op : AluOp) (n : Byte) (s : State) : State := (aluOnA op n s).withCycles 8

/-- R239, R240: the byte is read once and written once; C is kept. -/
def incOperand (r : Operand8) (s : State) : State :=
  let res := incResult (operand8 r s) s.fc
  (setResultFlags res (setOperand8 r res.value s)).withCycles (costOf r 4 12)

/-- R241, R242. -/
def decOperand (r : Operand8) (s : State) : State :=
  let res := decResult (operand8 r s) s.fc
  (setResultFlags res (setOperand8 r res.value s)).withCycles (costOf r 4 12)

/-- `INC B`: R239. -/
def execIncB (s : State) : Result := .next (incOperand .b s)

/-- `DEC B`: R241. -/
def execDecB (s : State) : Result := .next (decOperand .b s)

/-- `INC C`: R239. -/
def execIncC (s : State) : Result := .next (incOperand .c s)

/-- `DEC C`: R241. -/
def execDecC (s : State) : Result := .next (decOperand .c s)

/-- `INC D`: R239. -/
def execIncD (s : State) : Result := .next (incOperand .d s)

/-- `DEC D`: R241. -/
def execDecD (s : State) : Result := .next (decOperand .d s)

/-- `INC E`: R239. -/
def execIncE (s : State) : Result := .next (incOperand .e s)

/-- `DEC E`: R241. -/
def execDecE (s : State) : Result := .next (decOperand .e s)

/-- `INC H`: R239. -/
def execIncH (s : State) : Result := .next (incOperand .h s)

/-- `DEC H`: R241. -/
def execDecH (s : State) : Result := .next (decOperand .h s)

/-- `INC L`: R239. -/
def execIncL (s : State) : Result := .next (incOperand .l s)

/-- `DEC L`: R241. -/
def execDecL (s : State) : Result := .next (decOperand .l s)

/-- `INC (HL)`: R240. -/
def execIncIndHl (s : State) : Result := .next (incOperand .indHl s)

/-- `DEC (HL)`: R242. -/
def execDecIndHl (s : State) : Result := .next (decOperand .indHl s)

/-- `INC A`: R239. -/
def execIncA (s : State) : Result := .next (incOperand .a s)

/-- `DEC A`: R241. -/
def execDecA (s : State) : Result := .next (decOperand .a s)

/-- `ADD A,B`: R231. -/
def execAddAB (s : State) : Result := .next (aluOperand .add .b s)

/-- `ADD A,C`: R231. -/
def execAddAC (s : State) : Result := .next (aluOperand .add .c s)

/-- `ADD A,D`: R231. -/
def execAddAD (s : State) : Result := .next (aluOperand .add .d s)

/-- `ADD A,E`: R231. -/
def execAddAE (s : State) : Result := .next (aluOperand .add .e s)

/-- `ADD A,H`: R231. -/
def execAddAH (s : State) : Result := .next (aluOperand .add .h s)

/-- `ADD A,L`: R231. -/
def execAddAL (s : State) : Result := .next (aluOperand .add .l s)

/-- `ADD A,(HL)`: R231. -/
def execAddAIndHl (s : State) : Result := .next (aluOperand .add .indHl s)

/-- `ADD A,A`: R231. -/
def execAddAA (s : State) : Result := .next (aluOperand .add .a s)

/-- `ADC A,B`: R232. -/
def execAdcAB (s : State) : Result := .next (aluOperand .adc .b s)

/-- `ADC A,C`: R232. -/
def execAdcAC (s : State) : Result := .next (aluOperand .adc .c s)

/-- `ADC A,D`: R232. -/
def execAdcAD (s : State) : Result := .next (aluOperand .adc .d s)

/-- `ADC A,E`: R232. -/
def execAdcAE (s : State) : Result := .next (aluOperand .adc .e s)

/-- `ADC A,H`: R232. -/
def execAdcAH (s : State) : Result := .next (aluOperand .adc .h s)

/-- `ADC A,L`: R232. -/
def execAdcAL (s : State) : Result := .next (aluOperand .adc .l s)

/-- `ADC A,(HL)`: R232. -/
def execAdcAIndHl (s : State) : Result := .next (aluOperand .adc .indHl s)

/-- `ADC A,A`: R232. -/
def execAdcAA (s : State) : Result := .next (aluOperand .adc .a s)

/-- `SUB B`: R233. -/
def execSubB (s : State) : Result := .next (aluOperand .sub .b s)

/-- `SUB C`: R233. -/
def execSubC (s : State) : Result := .next (aluOperand .sub .c s)

/-- `SUB D`: R233. -/
def execSubD (s : State) : Result := .next (aluOperand .sub .d s)

/-- `SUB E`: R233. -/
def execSubE (s : State) : Result := .next (aluOperand .sub .e s)

/-- `SUB H`: R233. -/
def execSubH (s : State) : Result := .next (aluOperand .sub .h s)

/-- `SUB L`: R233. -/
def execSubL (s : State) : Result := .next (aluOperand .sub .l s)

/-- `SUB (HL)`: R233. -/
def execSubIndHl (s : State) : Result := .next (aluOperand .sub .indHl s)

/-- `SUB A`: R233. -/
def execSubA (s : State) : Result := .next (aluOperand .sub .a s)

/-- `SBC A,B`: R234. -/
def execSbcAB (s : State) : Result := .next (aluOperand .sbc .b s)

/-- `SBC A,C`: R234. -/
def execSbcAC (s : State) : Result := .next (aluOperand .sbc .c s)

/-- `SBC A,D`: R234. -/
def execSbcAD (s : State) : Result := .next (aluOperand .sbc .d s)

/-- `SBC A,E`: R234. -/
def execSbcAE (s : State) : Result := .next (aluOperand .sbc .e s)

/-- `SBC A,H`: R234. -/
def execSbcAH (s : State) : Result := .next (aluOperand .sbc .h s)

/-- `SBC A,L`: R234. -/
def execSbcAL (s : State) : Result := .next (aluOperand .sbc .l s)

/-- `SBC A,(HL)`: R234. -/
def execSbcAIndHl (s : State) : Result := .next (aluOperand .sbc .indHl s)

/-- `SBC A,A`: R234. -/
def execSbcAA (s : State) : Result := .next (aluOperand .sbc .a s)

/-- `AND B`: R235. -/
def execAndB (s : State) : Result := .next (aluOperand .and .b s)

/-- `AND C`: R235. -/
def execAndC (s : State) : Result := .next (aluOperand .and .c s)

/-- `AND D`: R235. -/
def execAndD (s : State) : Result := .next (aluOperand .and .d s)

/-- `AND E`: R235. -/
def execAndE (s : State) : Result := .next (aluOperand .and .e s)

/-- `AND H`: R235. -/
def execAndH (s : State) : Result := .next (aluOperand .and .h s)

/-- `AND L`: R235. -/
def execAndL (s : State) : Result := .next (aluOperand .and .l s)

/-- `AND (HL)`: R235. -/
def execAndIndHl (s : State) : Result := .next (aluOperand .and .indHl s)

/-- `AND A`: R235. -/
def execAndA (s : State) : Result := .next (aluOperand .and .a s)

/-- `XOR B`: R236. -/
def execXorB (s : State) : Result := .next (aluOperand .xor .b s)

/-- `XOR C`: R236. -/
def execXorC (s : State) : Result := .next (aluOperand .xor .c s)

/-- `XOR D`: R236. -/
def execXorD (s : State) : Result := .next (aluOperand .xor .d s)

/-- `XOR E`: R236. -/
def execXorE (s : State) : Result := .next (aluOperand .xor .e s)

/-- `XOR H`: R236. -/
def execXorH (s : State) : Result := .next (aluOperand .xor .h s)

/-- `XOR L`: R236. -/
def execXorL (s : State) : Result := .next (aluOperand .xor .l s)

/-- `XOR (HL)`: R236. -/
def execXorIndHl (s : State) : Result := .next (aluOperand .xor .indHl s)

/-- `XOR A`: R236. -/
def execXorA (s : State) : Result := .next (aluOperand .xor .a s)

/-- `OR B`: R237. -/
def execOrB (s : State) : Result := .next (aluOperand .or .b s)

/-- `OR C`: R237. -/
def execOrC (s : State) : Result := .next (aluOperand .or .c s)

/-- `OR D`: R237. -/
def execOrD (s : State) : Result := .next (aluOperand .or .d s)

/-- `OR E`: R237. -/
def execOrE (s : State) : Result := .next (aluOperand .or .e s)

/-- `OR H`: R237. -/
def execOrH (s : State) : Result := .next (aluOperand .or .h s)

/-- `OR L`: R237. -/
def execOrL (s : State) : Result := .next (aluOperand .or .l s)

/-- `OR (HL)`: R237. -/
def execOrIndHl (s : State) : Result := .next (aluOperand .or .indHl s)

/-- `OR A`: R237. -/
def execOrA (s : State) : Result := .next (aluOperand .or .a s)

/-- `CP B`: R238. -/
def execCpB (s : State) : Result := .next (aluOperand .cp .b s)

/-- `CP C`: R238. -/
def execCpC (s : State) : Result := .next (aluOperand .cp .c s)

/-- `CP D`: R238. -/
def execCpD (s : State) : Result := .next (aluOperand .cp .d s)

/-- `CP E`: R238. -/
def execCpE (s : State) : Result := .next (aluOperand .cp .e s)

/-- `CP H`: R238. -/
def execCpH (s : State) : Result := .next (aluOperand .cp .h s)

/-- `CP L`: R238. -/
def execCpL (s : State) : Result := .next (aluOperand .cp .l s)

/-- `CP (HL)`: R238. -/
def execCpIndHl (s : State) : Result := .next (aluOperand .cp .indHl s)

/-- `CP A`: R238. -/
def execCpA (s : State) : Result := .next (aluOperand .cp .a s)

/-- `ADD A,n`: R231. -/
def execAddAN (n : Byte) (s : State) : Result := .next (aluImm8 .add n s)

/-- `ADC A,n`: R232. -/
def execAdcAN (n : Byte) (s : State) : Result := .next (aluImm8 .adc n s)

/-- `SUB n`: R233. -/
def execSubN (n : Byte) (s : State) : Result := .next (aluImm8 .sub n s)

/-- `SBC A,n`: R234. -/
def execSbcAN (n : Byte) (s : State) : Result := .next (aluImm8 .sbc n s)

/-- `AND n`: R235. -/
def execAndN (n : Byte) (s : State) : Result := .next (aluImm8 .and n s)

/-- `XOR n`: R236. -/
def execXorN (n : Byte) (s : State) : Result := .next (aluImm8 .xor n s)

/-- `OR n`: R237. -/
def execOrN (n : Byte) (s : State) : Result := .next (aluImm8 .or n s)

/-- `CP n`: R238. -/
def execCpN (n : Byte) (s : State) : Result := .next (aluImm8 .cp n s)

end Sys2Proof.Machine
end

