-- ==== Sys2Proof/Machine/Calls.lean ====
section
/-! DEFINITION. Calls, returns and restarts (47_call_return.md). The PC pushed is past the call's own bytes. -/

namespace Sys2Proof.Machine

/-- `push16(PC); PC <- a`. -/
def pushPcAndGo (a : Word) (s : State) : State := (push16 s.cpu.pc s).setPc a

/-- R320. -/
def call (nn : Word) (s : State) : State := (pushPcAndGo nn s).withCycles 24

/-- R321: 24 cycles taken, 12 not taken, when nothing is written. -/
def callIf (cc : Cond) (nn : Word) (s : State) : State :=
  if condHolds cc s then (pushPcAndGo nn s).withCycles 24 else s.withCycles 12

/-- `PC <- pop16()`. -/
def popPc (s : State) : State := (popSp s).setPc (popValue s)

/-- R322. -/
def ret (s : State) : State := (popPc s).withCycles 16

/-- R323: 20 cycles taken, 8 not taken, when nothing is read. -/
def retIf (cc : Cond) (s : State) : State :=
  if condHolds cc s then (popPc s).withCycles 20 else s.withCycles 8

/-- R324. -/
def reti (s : State) : State := (returnFromInterrupt s).withCycles 16

/-- R325. -/
def restart (y : Index8) (s : State) : State := (pushPcAndGo (rstTarget y) s).withCycles 16

/-- `RET NZ`: R323. -/
def execRetNz (s : State) : Result := .next (retIf .nz s)

/-- `CALL NZ,nn`: R321. -/
def execCallNzNn (nn : Word) (s : State) : Result := .next (callIf .nz nn s)

/-- `RST 0x00`: R325. -/
def execRst00 (s : State) : Result := .next (restart .i0 s)

/-- `RET Z`: R323. -/
def execRetZ (s : State) : Result := .next (retIf .z s)

/-- `RET`: R322. -/
def execRet (s : State) : Result := .next (ret s)

/-- `CALL Z,nn`: R321. -/
def execCallZNn (nn : Word) (s : State) : Result := .next (callIf .z nn s)

/-- `CALL nn`: R320. -/
def execCallNn (nn : Word) (s : State) : Result := .next (call nn s)

/-- `RST 0x08`: R325. -/
def execRst08 (s : State) : Result := .next (restart .i1 s)

/-- `RET NC`: R323. -/
def execRetNc (s : State) : Result := .next (retIf .nc s)

/-- `CALL NC,nn`: R321. -/
def execCallNcNn (nn : Word) (s : State) : Result := .next (callIf .nc nn s)

/-- `RST 0x10`: R325. -/
def execRst10 (s : State) : Result := .next (restart .i2 s)

/-- `RET C`: R323. -/
def execRetC (s : State) : Result := .next (retIf .c s)

/-- `RETI`: R324. -/
def execReti (s : State) : Result := .next (reti s)

/-- `CALL C,nn`: R321. -/
def execCallCNn (nn : Word) (s : State) : Result := .next (callIf .c nn s)

/-- `RST 0x18`: R325. -/
def execRst18 (s : State) : Result := .next (restart .i3 s)

/-- `RST 0x20`: R325. -/
def execRst20 (s : State) : Result := .next (restart .i4 s)

/-- `RST 0x28`: R325. -/
def execRst28 (s : State) : Result := .next (restart .i5 s)

/-- `RST 0x30`: R325. -/
def execRst30 (s : State) : Result := .next (restart .i6 s)

/-- `RST 0x38`: R325. -/
def execRst38 (s : State) : Result := .next (restart .i7 s)

end Sys2Proof.Machine
end

