-- ==== Sys2Proof/Machine/CbPage.lean ====
section
/-! DEFINITION. The CB-prefixed page (49_cb_prefix.md). A form that changes its operand reads it once and writes it
once; BIT only reads (R360). -/

namespace Sys2Proof.Machine

/-- R361 to R368: Z from the result, N = 0, H = 0. -/
def rotOperand (op : RotOp) (r : Operand8) (s : State) : State :=
  let v := operand8 r s
  let w := rotValue op v s.fc
  ((setOperand8 r w s).setFlags (w == 0) false false (rotCarry op v)).withCycles (costOf r 8 16)

/-- R369: C is kept and the operand is not written. -/
def bitOperand (b : Index8) (r : Operand8) (s : State) : State :=
  (s.setFlags (!bitOf (operand8 r s) (indexNat b)) false true s.fc).withCycles (costOf r 8 12)

/-- R370: no flag changes. -/
def resOperand (b : Index8) (r : Operand8) (s : State) : State :=
  (setOperand8 r (operand8 r s &&& ~~~(1#8 <<< indexNat b)) s).withCycles (costOf r 8 16)

/-- R371: no flag changes. -/
def setOperand (b : Index8) (r : Operand8) (s : State) : State :=
  (setOperand8 r (operand8 r s ||| (1#8 <<< indexNat b)) s).withCycles (costOf r 8 16)

/-- `RLC B`: R361. -/
def execRlcB (s : State) : Result := .next (rotOperand .rlc .b s)

/-- `RLC C`: R361. -/
def execRlcC (s : State) : Result := .next (rotOperand .rlc .c s)

/-- `RLC D`: R361. -/
def execRlcD (s : State) : Result := .next (rotOperand .rlc .d s)

/-- `RLC E`: R361. -/
def execRlcE (s : State) : Result := .next (rotOperand .rlc .e s)

/-- `RLC H`: R361. -/
def execRlcH (s : State) : Result := .next (rotOperand .rlc .h s)

/-- `RLC L`: R361. -/
def execRlcL (s : State) : Result := .next (rotOperand .rlc .l s)

/-- `RLC (HL)`: R361. -/
def execRlcIndHl (s : State) : Result := .next (rotOperand .rlc .indHl s)

/-- `RLC A`: R361. -/
def execRlcA (s : State) : Result := .next (rotOperand .rlc .a s)

/-- `RRC B`: R362. -/
def execRrcB (s : State) : Result := .next (rotOperand .rrc .b s)

/-- `RRC C`: R362. -/
def execRrcC (s : State) : Result := .next (rotOperand .rrc .c s)

/-- `RRC D`: R362. -/
def execRrcD (s : State) : Result := .next (rotOperand .rrc .d s)

/-- `RRC E`: R362. -/
def execRrcE (s : State) : Result := .next (rotOperand .rrc .e s)

/-- `RRC H`: R362. -/
def execRrcH (s : State) : Result := .next (rotOperand .rrc .h s)

/-- `RRC L`: R362. -/
def execRrcL (s : State) : Result := .next (rotOperand .rrc .l s)

/-- `RRC (HL)`: R362. -/
def execRrcIndHl (s : State) : Result := .next (rotOperand .rrc .indHl s)

/-- `RRC A`: R362. -/
def execRrcA (s : State) : Result := .next (rotOperand .rrc .a s)

/-- `RL B`: R363. -/
def execRlB (s : State) : Result := .next (rotOperand .rl .b s)

/-- `RL C`: R363. -/
def execRlC (s : State) : Result := .next (rotOperand .rl .c s)

/-- `RL D`: R363. -/
def execRlD (s : State) : Result := .next (rotOperand .rl .d s)

/-- `RL E`: R363. -/
def execRlE (s : State) : Result := .next (rotOperand .rl .e s)

/-- `RL H`: R363. -/
def execRlH (s : State) : Result := .next (rotOperand .rl .h s)

/-- `RL L`: R363. -/
def execRlL (s : State) : Result := .next (rotOperand .rl .l s)

/-- `RL (HL)`: R363. -/
def execRlIndHl (s : State) : Result := .next (rotOperand .rl .indHl s)

/-- `RL A`: R363. -/
def execRlA (s : State) : Result := .next (rotOperand .rl .a s)

/-- `RR B`: R364. -/
def execRrB (s : State) : Result := .next (rotOperand .rr .b s)

/-- `RR C`: R364. -/
def execRrC (s : State) : Result := .next (rotOperand .rr .c s)

/-- `RR D`: R364. -/
def execRrD (s : State) : Result := .next (rotOperand .rr .d s)

/-- `RR E`: R364. -/
def execRrE (s : State) : Result := .next (rotOperand .rr .e s)

/-- `RR H`: R364. -/
def execRrH (s : State) : Result := .next (rotOperand .rr .h s)

/-- `RR L`: R364. -/
def execRrL (s : State) : Result := .next (rotOperand .rr .l s)

/-- `RR (HL)`: R364. -/
def execRrIndHl (s : State) : Result := .next (rotOperand .rr .indHl s)

/-- `RR A`: R364. -/
def execRrA (s : State) : Result := .next (rotOperand .rr .a s)

/-- `SLA B`: R365. -/
def execSlaB (s : State) : Result := .next (rotOperand .sla .b s)

/-- `SLA C`: R365. -/
def execSlaC (s : State) : Result := .next (rotOperand .sla .c s)

/-- `SLA D`: R365. -/
def execSlaD (s : State) : Result := .next (rotOperand .sla .d s)

/-- `SLA E`: R365. -/
def execSlaE (s : State) : Result := .next (rotOperand .sla .e s)

/-- `SLA H`: R365. -/
def execSlaH (s : State) : Result := .next (rotOperand .sla .h s)

/-- `SLA L`: R365. -/
def execSlaL (s : State) : Result := .next (rotOperand .sla .l s)

/-- `SLA (HL)`: R365. -/
def execSlaIndHl (s : State) : Result := .next (rotOperand .sla .indHl s)

/-- `SLA A`: R365. -/
def execSlaA (s : State) : Result := .next (rotOperand .sla .a s)

/-- `SRA B`: R366. -/
def execSraB (s : State) : Result := .next (rotOperand .sra .b s)

/-- `SRA C`: R366. -/
def execSraC (s : State) : Result := .next (rotOperand .sra .c s)

/-- `SRA D`: R366. -/
def execSraD (s : State) : Result := .next (rotOperand .sra .d s)

/-- `SRA E`: R366. -/
def execSraE (s : State) : Result := .next (rotOperand .sra .e s)

/-- `SRA H`: R366. -/
def execSraH (s : State) : Result := .next (rotOperand .sra .h s)

/-- `SRA L`: R366. -/
def execSraL (s : State) : Result := .next (rotOperand .sra .l s)

/-- `SRA (HL)`: R366. -/
def execSraIndHl (s : State) : Result := .next (rotOperand .sra .indHl s)

/-- `SRA A`: R366. -/
def execSraA (s : State) : Result := .next (rotOperand .sra .a s)

/-- `SWAP B`: R367. -/
def execSwapB (s : State) : Result := .next (rotOperand .swap .b s)

/-- `SWAP C`: R367. -/
def execSwapC (s : State) : Result := .next (rotOperand .swap .c s)

/-- `SWAP D`: R367. -/
def execSwapD (s : State) : Result := .next (rotOperand .swap .d s)

/-- `SWAP E`: R367. -/
def execSwapE (s : State) : Result := .next (rotOperand .swap .e s)

/-- `SWAP H`: R367. -/
def execSwapH (s : State) : Result := .next (rotOperand .swap .h s)

/-- `SWAP L`: R367. -/
def execSwapL (s : State) : Result := .next (rotOperand .swap .l s)

/-- `SWAP (HL)`: R367. -/
def execSwapIndHl (s : State) : Result := .next (rotOperand .swap .indHl s)

/-- `SWAP A`: R367. -/
def execSwapA (s : State) : Result := .next (rotOperand .swap .a s)

/-- `SRL B`: R368. -/
def execSrlB (s : State) : Result := .next (rotOperand .srl .b s)

/-- `SRL C`: R368. -/
def execSrlC (s : State) : Result := .next (rotOperand .srl .c s)

/-- `SRL D`: R368. -/
def execSrlD (s : State) : Result := .next (rotOperand .srl .d s)

/-- `SRL E`: R368. -/
def execSrlE (s : State) : Result := .next (rotOperand .srl .e s)

/-- `SRL H`: R368. -/
def execSrlH (s : State) : Result := .next (rotOperand .srl .h s)

/-- `SRL L`: R368. -/
def execSrlL (s : State) : Result := .next (rotOperand .srl .l s)

/-- `SRL (HL)`: R368. -/
def execSrlIndHl (s : State) : Result := .next (rotOperand .srl .indHl s)

/-- `SRL A`: R368. -/
def execSrlA (s : State) : Result := .next (rotOperand .srl .a s)

/-- `BIT 0,B`: R369. -/
def execBit0B (s : State) : Result := .next (bitOperand .i0 .b s)

/-- `BIT 0,C`: R369. -/
def execBit0C (s : State) : Result := .next (bitOperand .i0 .c s)

/-- `BIT 0,D`: R369. -/
def execBit0D (s : State) : Result := .next (bitOperand .i0 .d s)

/-- `BIT 0,E`: R369. -/
def execBit0E (s : State) : Result := .next (bitOperand .i0 .e s)

/-- `BIT 0,H`: R369. -/
def execBit0H (s : State) : Result := .next (bitOperand .i0 .h s)

/-- `BIT 0,L`: R369. -/
def execBit0L (s : State) : Result := .next (bitOperand .i0 .l s)

/-- `BIT 0,(HL)`: R369. -/
def execBit0IndHl (s : State) : Result := .next (bitOperand .i0 .indHl s)

/-- `BIT 0,A`: R369. -/
def execBit0A (s : State) : Result := .next (bitOperand .i0 .a s)

/-- `BIT 1,B`: R369. -/
def execBit1B (s : State) : Result := .next (bitOperand .i1 .b s)

/-- `BIT 1,C`: R369. -/
def execBit1C (s : State) : Result := .next (bitOperand .i1 .c s)

/-- `BIT 1,D`: R369. -/
def execBit1D (s : State) : Result := .next (bitOperand .i1 .d s)

/-- `BIT 1,E`: R369. -/
def execBit1E (s : State) : Result := .next (bitOperand .i1 .e s)

/-- `BIT 1,H`: R369. -/
def execBit1H (s : State) : Result := .next (bitOperand .i1 .h s)

/-- `BIT 1,L`: R369. -/
def execBit1L (s : State) : Result := .next (bitOperand .i1 .l s)

/-- `BIT 1,(HL)`: R369. -/
def execBit1IndHl (s : State) : Result := .next (bitOperand .i1 .indHl s)

/-- `BIT 1,A`: R369. -/
def execBit1A (s : State) : Result := .next (bitOperand .i1 .a s)

/-- `BIT 2,B`: R369. -/
def execBit2B (s : State) : Result := .next (bitOperand .i2 .b s)

/-- `BIT 2,C`: R369. -/
def execBit2C (s : State) : Result := .next (bitOperand .i2 .c s)

/-- `BIT 2,D`: R369. -/
def execBit2D (s : State) : Result := .next (bitOperand .i2 .d s)

/-- `BIT 2,E`: R369. -/
def execBit2E (s : State) : Result := .next (bitOperand .i2 .e s)

/-- `BIT 2,H`: R369. -/
def execBit2H (s : State) : Result := .next (bitOperand .i2 .h s)

/-- `BIT 2,L`: R369. -/
def execBit2L (s : State) : Result := .next (bitOperand .i2 .l s)

/-- `BIT 2,(HL)`: R369. -/
def execBit2IndHl (s : State) : Result := .next (bitOperand .i2 .indHl s)

/-- `BIT 2,A`: R369. -/
def execBit2A (s : State) : Result := .next (bitOperand .i2 .a s)

/-- `BIT 3,B`: R369. -/
def execBit3B (s : State) : Result := .next (bitOperand .i3 .b s)

/-- `BIT 3,C`: R369. -/
def execBit3C (s : State) : Result := .next (bitOperand .i3 .c s)

/-- `BIT 3,D`: R369. -/
def execBit3D (s : State) : Result := .next (bitOperand .i3 .d s)

/-- `BIT 3,E`: R369. -/
def execBit3E (s : State) : Result := .next (bitOperand .i3 .e s)

/-- `BIT 3,H`: R369. -/
def execBit3H (s : State) : Result := .next (bitOperand .i3 .h s)

/-- `BIT 3,L`: R369. -/
def execBit3L (s : State) : Result := .next (bitOperand .i3 .l s)

/-- `BIT 3,(HL)`: R369. -/
def execBit3IndHl (s : State) : Result := .next (bitOperand .i3 .indHl s)

/-- `BIT 3,A`: R369. -/
def execBit3A (s : State) : Result := .next (bitOperand .i3 .a s)

/-- `BIT 4,B`: R369. -/
def execBit4B (s : State) : Result := .next (bitOperand .i4 .b s)

/-- `BIT 4,C`: R369. -/
def execBit4C (s : State) : Result := .next (bitOperand .i4 .c s)

/-- `BIT 4,D`: R369. -/
def execBit4D (s : State) : Result := .next (bitOperand .i4 .d s)

/-- `BIT 4,E`: R369. -/
def execBit4E (s : State) : Result := .next (bitOperand .i4 .e s)

/-- `BIT 4,H`: R369. -/
def execBit4H (s : State) : Result := .next (bitOperand .i4 .h s)

/-- `BIT 4,L`: R369. -/
def execBit4L (s : State) : Result := .next (bitOperand .i4 .l s)

/-- `BIT 4,(HL)`: R369. -/
def execBit4IndHl (s : State) : Result := .next (bitOperand .i4 .indHl s)

/-- `BIT 4,A`: R369. -/
def execBit4A (s : State) : Result := .next (bitOperand .i4 .a s)

/-- `BIT 5,B`: R369. -/
def execBit5B (s : State) : Result := .next (bitOperand .i5 .b s)

/-- `BIT 5,C`: R369. -/
def execBit5C (s : State) : Result := .next (bitOperand .i5 .c s)

/-- `BIT 5,D`: R369. -/
def execBit5D (s : State) : Result := .next (bitOperand .i5 .d s)

/-- `BIT 5,E`: R369. -/
def execBit5E (s : State) : Result := .next (bitOperand .i5 .e s)

/-- `BIT 5,H`: R369. -/
def execBit5H (s : State) : Result := .next (bitOperand .i5 .h s)

/-- `BIT 5,L`: R369. -/
def execBit5L (s : State) : Result := .next (bitOperand .i5 .l s)

/-- `BIT 5,(HL)`: R369. -/
def execBit5IndHl (s : State) : Result := .next (bitOperand .i5 .indHl s)

/-- `BIT 5,A`: R369. -/
def execBit5A (s : State) : Result := .next (bitOperand .i5 .a s)

/-- `BIT 6,B`: R369. -/
def execBit6B (s : State) : Result := .next (bitOperand .i6 .b s)

/-- `BIT 6,C`: R369. -/
def execBit6C (s : State) : Result := .next (bitOperand .i6 .c s)

/-- `BIT 6,D`: R369. -/
def execBit6D (s : State) : Result := .next (bitOperand .i6 .d s)

/-- `BIT 6,E`: R369. -/
def execBit6E (s : State) : Result := .next (bitOperand .i6 .e s)

/-- `BIT 6,H`: R369. -/
def execBit6H (s : State) : Result := .next (bitOperand .i6 .h s)

/-- `BIT 6,L`: R369. -/
def execBit6L (s : State) : Result := .next (bitOperand .i6 .l s)

/-- `BIT 6,(HL)`: R369. -/
def execBit6IndHl (s : State) : Result := .next (bitOperand .i6 .indHl s)

/-- `BIT 6,A`: R369. -/
def execBit6A (s : State) : Result := .next (bitOperand .i6 .a s)

/-- `BIT 7,B`: R369. -/
def execBit7B (s : State) : Result := .next (bitOperand .i7 .b s)

/-- `BIT 7,C`: R369. -/
def execBit7C (s : State) : Result := .next (bitOperand .i7 .c s)

/-- `BIT 7,D`: R369. -/
def execBit7D (s : State) : Result := .next (bitOperand .i7 .d s)

/-- `BIT 7,E`: R369. -/
def execBit7E (s : State) : Result := .next (bitOperand .i7 .e s)

/-- `BIT 7,H`: R369. -/
def execBit7H (s : State) : Result := .next (bitOperand .i7 .h s)

/-- `BIT 7,L`: R369. -/
def execBit7L (s : State) : Result := .next (bitOperand .i7 .l s)

/-- `BIT 7,(HL)`: R369. -/
def execBit7IndHl (s : State) : Result := .next (bitOperand .i7 .indHl s)

/-- `BIT 7,A`: R369. -/
def execBit7A (s : State) : Result := .next (bitOperand .i7 .a s)

/-- `RES 0,B`: R370. -/
def execRes0B (s : State) : Result := .next (resOperand .i0 .b s)

/-- `RES 0,C`: R370. -/
def execRes0C (s : State) : Result := .next (resOperand .i0 .c s)

/-- `RES 0,D`: R370. -/
def execRes0D (s : State) : Result := .next (resOperand .i0 .d s)

/-- `RES 0,E`: R370. -/
def execRes0E (s : State) : Result := .next (resOperand .i0 .e s)

/-- `RES 0,H`: R370. -/
def execRes0H (s : State) : Result := .next (resOperand .i0 .h s)

/-- `RES 0,L`: R370. -/
def execRes0L (s : State) : Result := .next (resOperand .i0 .l s)

/-- `RES 0,(HL)`: R370. -/
def execRes0IndHl (s : State) : Result := .next (resOperand .i0 .indHl s)

/-- `RES 0,A`: R370. -/
def execRes0A (s : State) : Result := .next (resOperand .i0 .a s)

/-- `RES 1,B`: R370. -/
def execRes1B (s : State) : Result := .next (resOperand .i1 .b s)

/-- `RES 1,C`: R370. -/
def execRes1C (s : State) : Result := .next (resOperand .i1 .c s)

/-- `RES 1,D`: R370. -/
def execRes1D (s : State) : Result := .next (resOperand .i1 .d s)

/-- `RES 1,E`: R370. -/
def execRes1E (s : State) : Result := .next (resOperand .i1 .e s)

/-- `RES 1,H`: R370. -/
def execRes1H (s : State) : Result := .next (resOperand .i1 .h s)

/-- `RES 1,L`: R370. -/
def execRes1L (s : State) : Result := .next (resOperand .i1 .l s)

/-- `RES 1,(HL)`: R370. -/
def execRes1IndHl (s : State) : Result := .next (resOperand .i1 .indHl s)

/-- `RES 1,A`: R370. -/
def execRes1A (s : State) : Result := .next (resOperand .i1 .a s)

/-- `RES 2,B`: R370. -/
def execRes2B (s : State) : Result := .next (resOperand .i2 .b s)

/-- `RES 2,C`: R370. -/
def execRes2C (s : State) : Result := .next (resOperand .i2 .c s)

/-- `RES 2,D`: R370. -/
def execRes2D (s : State) : Result := .next (resOperand .i2 .d s)

/-- `RES 2,E`: R370. -/
def execRes2E (s : State) : Result := .next (resOperand .i2 .e s)

/-- `RES 2,H`: R370. -/
def execRes2H (s : State) : Result := .next (resOperand .i2 .h s)

/-- `RES 2,L`: R370. -/
def execRes2L (s : State) : Result := .next (resOperand .i2 .l s)

/-- `RES 2,(HL)`: R370. -/
def execRes2IndHl (s : State) : Result := .next (resOperand .i2 .indHl s)

/-- `RES 2,A`: R370. -/
def execRes2A (s : State) : Result := .next (resOperand .i2 .a s)

/-- `RES 3,B`: R370. -/
def execRes3B (s : State) : Result := .next (resOperand .i3 .b s)

/-- `RES 3,C`: R370. -/
def execRes3C (s : State) : Result := .next (resOperand .i3 .c s)

/-- `RES 3,D`: R370. -/
def execRes3D (s : State) : Result := .next (resOperand .i3 .d s)

/-- `RES 3,E`: R370. -/
def execRes3E (s : State) : Result := .next (resOperand .i3 .e s)

/-- `RES 3,H`: R370. -/
def execRes3H (s : State) : Result := .next (resOperand .i3 .h s)

/-- `RES 3,L`: R370. -/
def execRes3L (s : State) : Result := .next (resOperand .i3 .l s)

/-- `RES 3,(HL)`: R370. -/
def execRes3IndHl (s : State) : Result := .next (resOperand .i3 .indHl s)

/-- `RES 3,A`: R370. -/
def execRes3A (s : State) : Result := .next (resOperand .i3 .a s)

/-- `RES 4,B`: R370. -/
def execRes4B (s : State) : Result := .next (resOperand .i4 .b s)

/-- `RES 4,C`: R370. -/
def execRes4C (s : State) : Result := .next (resOperand .i4 .c s)

/-- `RES 4,D`: R370. -/
def execRes4D (s : State) : Result := .next (resOperand .i4 .d s)

/-- `RES 4,E`: R370. -/
def execRes4E (s : State) : Result := .next (resOperand .i4 .e s)

/-- `RES 4,H`: R370. -/
def execRes4H (s : State) : Result := .next (resOperand .i4 .h s)

/-- `RES 4,L`: R370. -/
def execRes4L (s : State) : Result := .next (resOperand .i4 .l s)

/-- `RES 4,(HL)`: R370. -/
def execRes4IndHl (s : State) : Result := .next (resOperand .i4 .indHl s)

/-- `RES 4,A`: R370. -/
def execRes4A (s : State) : Result := .next (resOperand .i4 .a s)

/-- `RES 5,B`: R370. -/
def execRes5B (s : State) : Result := .next (resOperand .i5 .b s)

/-- `RES 5,C`: R370. -/
def execRes5C (s : State) : Result := .next (resOperand .i5 .c s)

/-- `RES 5,D`: R370. -/
def execRes5D (s : State) : Result := .next (resOperand .i5 .d s)

/-- `RES 5,E`: R370. -/
def execRes5E (s : State) : Result := .next (resOperand .i5 .e s)

/-- `RES 5,H`: R370. -/
def execRes5H (s : State) : Result := .next (resOperand .i5 .h s)

/-- `RES 5,L`: R370. -/
def execRes5L (s : State) : Result := .next (resOperand .i5 .l s)

/-- `RES 5,(HL)`: R370. -/
def execRes5IndHl (s : State) : Result := .next (resOperand .i5 .indHl s)

/-- `RES 5,A`: R370. -/
def execRes5A (s : State) : Result := .next (resOperand .i5 .a s)

/-- `RES 6,B`: R370. -/
def execRes6B (s : State) : Result := .next (resOperand .i6 .b s)

/-- `RES 6,C`: R370. -/
def execRes6C (s : State) : Result := .next (resOperand .i6 .c s)

/-- `RES 6,D`: R370. -/
def execRes6D (s : State) : Result := .next (resOperand .i6 .d s)

/-- `RES 6,E`: R370. -/
def execRes6E (s : State) : Result := .next (resOperand .i6 .e s)

/-- `RES 6,H`: R370. -/
def execRes6H (s : State) : Result := .next (resOperand .i6 .h s)

/-- `RES 6,L`: R370. -/
def execRes6L (s : State) : Result := .next (resOperand .i6 .l s)

/-- `RES 6,(HL)`: R370. -/
def execRes6IndHl (s : State) : Result := .next (resOperand .i6 .indHl s)

/-- `RES 6,A`: R370. -/
def execRes6A (s : State) : Result := .next (resOperand .i6 .a s)

/-- `RES 7,B`: R370. -/
def execRes7B (s : State) : Result := .next (resOperand .i7 .b s)

/-- `RES 7,C`: R370. -/
def execRes7C (s : State) : Result := .next (resOperand .i7 .c s)

/-- `RES 7,D`: R370. -/
def execRes7D (s : State) : Result := .next (resOperand .i7 .d s)

/-- `RES 7,E`: R370. -/
def execRes7E (s : State) : Result := .next (resOperand .i7 .e s)

/-- `RES 7,H`: R370. -/
def execRes7H (s : State) : Result := .next (resOperand .i7 .h s)

/-- `RES 7,L`: R370. -/
def execRes7L (s : State) : Result := .next (resOperand .i7 .l s)

/-- `RES 7,(HL)`: R370. -/
def execRes7IndHl (s : State) : Result := .next (resOperand .i7 .indHl s)

/-- `RES 7,A`: R370. -/
def execRes7A (s : State) : Result := .next (resOperand .i7 .a s)

/-- `SET 0,B`: R371. -/
def execSet0B (s : State) : Result := .next (setOperand .i0 .b s)

/-- `SET 0,C`: R371. -/
def execSet0C (s : State) : Result := .next (setOperand .i0 .c s)

/-- `SET 0,D`: R371. -/
def execSet0D (s : State) : Result := .next (setOperand .i0 .d s)

/-- `SET 0,E`: R371. -/
def execSet0E (s : State) : Result := .next (setOperand .i0 .e s)

/-- `SET 0,H`: R371. -/
def execSet0H (s : State) : Result := .next (setOperand .i0 .h s)

/-- `SET 0,L`: R371. -/
def execSet0L (s : State) : Result := .next (setOperand .i0 .l s)

/-- `SET 0,(HL)`: R371. -/
def execSet0IndHl (s : State) : Result := .next (setOperand .i0 .indHl s)

/-- `SET 0,A`: R371. -/
def execSet0A (s : State) : Result := .next (setOperand .i0 .a s)

/-- `SET 1,B`: R371. -/
def execSet1B (s : State) : Result := .next (setOperand .i1 .b s)

/-- `SET 1,C`: R371. -/
def execSet1C (s : State) : Result := .next (setOperand .i1 .c s)

/-- `SET 1,D`: R371. -/
def execSet1D (s : State) : Result := .next (setOperand .i1 .d s)

/-- `SET 1,E`: R371. -/
def execSet1E (s : State) : Result := .next (setOperand .i1 .e s)

/-- `SET 1,H`: R371. -/
def execSet1H (s : State) : Result := .next (setOperand .i1 .h s)

/-- `SET 1,L`: R371. -/
def execSet1L (s : State) : Result := .next (setOperand .i1 .l s)

/-- `SET 1,(HL)`: R371. -/
def execSet1IndHl (s : State) : Result := .next (setOperand .i1 .indHl s)

/-- `SET 1,A`: R371. -/
def execSet1A (s : State) : Result := .next (setOperand .i1 .a s)

/-- `SET 2,B`: R371. -/
def execSet2B (s : State) : Result := .next (setOperand .i2 .b s)

/-- `SET 2,C`: R371. -/
def execSet2C (s : State) : Result := .next (setOperand .i2 .c s)

/-- `SET 2,D`: R371. -/
def execSet2D (s : State) : Result := .next (setOperand .i2 .d s)

/-- `SET 2,E`: R371. -/
def execSet2E (s : State) : Result := .next (setOperand .i2 .e s)

/-- `SET 2,H`: R371. -/
def execSet2H (s : State) : Result := .next (setOperand .i2 .h s)

/-- `SET 2,L`: R371. -/
def execSet2L (s : State) : Result := .next (setOperand .i2 .l s)

/-- `SET 2,(HL)`: R371. -/
def execSet2IndHl (s : State) : Result := .next (setOperand .i2 .indHl s)

/-- `SET 2,A`: R371. -/
def execSet2A (s : State) : Result := .next (setOperand .i2 .a s)

/-- `SET 3,B`: R371. -/
def execSet3B (s : State) : Result := .next (setOperand .i3 .b s)

/-- `SET 3,C`: R371. -/
def execSet3C (s : State) : Result := .next (setOperand .i3 .c s)

/-- `SET 3,D`: R371. -/
def execSet3D (s : State) : Result := .next (setOperand .i3 .d s)

/-- `SET 3,E`: R371. -/
def execSet3E (s : State) : Result := .next (setOperand .i3 .e s)

/-- `SET 3,H`: R371. -/
def execSet3H (s : State) : Result := .next (setOperand .i3 .h s)

/-- `SET 3,L`: R371. -/
def execSet3L (s : State) : Result := .next (setOperand .i3 .l s)

/-- `SET 3,(HL)`: R371. -/
def execSet3IndHl (s : State) : Result := .next (setOperand .i3 .indHl s)

/-- `SET 3,A`: R371. -/
def execSet3A (s : State) : Result := .next (setOperand .i3 .a s)

/-- `SET 4,B`: R371. -/
def execSet4B (s : State) : Result := .next (setOperand .i4 .b s)

/-- `SET 4,C`: R371. -/
def execSet4C (s : State) : Result := .next (setOperand .i4 .c s)

/-- `SET 4,D`: R371. -/
def execSet4D (s : State) : Result := .next (setOperand .i4 .d s)

/-- `SET 4,E`: R371. -/
def execSet4E (s : State) : Result := .next (setOperand .i4 .e s)

/-- `SET 4,H`: R371. -/
def execSet4H (s : State) : Result := .next (setOperand .i4 .h s)

/-- `SET 4,L`: R371. -/
def execSet4L (s : State) : Result := .next (setOperand .i4 .l s)

/-- `SET 4,(HL)`: R371. -/
def execSet4IndHl (s : State) : Result := .next (setOperand .i4 .indHl s)

/-- `SET 4,A`: R371. -/
def execSet4A (s : State) : Result := .next (setOperand .i4 .a s)

/-- `SET 5,B`: R371. -/
def execSet5B (s : State) : Result := .next (setOperand .i5 .b s)

/-- `SET 5,C`: R371. -/
def execSet5C (s : State) : Result := .next (setOperand .i5 .c s)

/-- `SET 5,D`: R371. -/
def execSet5D (s : State) : Result := .next (setOperand .i5 .d s)

/-- `SET 5,E`: R371. -/
def execSet5E (s : State) : Result := .next (setOperand .i5 .e s)

/-- `SET 5,H`: R371. -/
def execSet5H (s : State) : Result := .next (setOperand .i5 .h s)

/-- `SET 5,L`: R371. -/
def execSet5L (s : State) : Result := .next (setOperand .i5 .l s)

/-- `SET 5,(HL)`: R371. -/
def execSet5IndHl (s : State) : Result := .next (setOperand .i5 .indHl s)

/-- `SET 5,A`: R371. -/
def execSet5A (s : State) : Result := .next (setOperand .i5 .a s)

/-- `SET 6,B`: R371. -/
def execSet6B (s : State) : Result := .next (setOperand .i6 .b s)

/-- `SET 6,C`: R371. -/
def execSet6C (s : State) : Result := .next (setOperand .i6 .c s)

/-- `SET 6,D`: R371. -/
def execSet6D (s : State) : Result := .next (setOperand .i6 .d s)

/-- `SET 6,E`: R371. -/
def execSet6E (s : State) : Result := .next (setOperand .i6 .e s)

/-- `SET 6,H`: R371. -/
def execSet6H (s : State) : Result := .next (setOperand .i6 .h s)

/-- `SET 6,L`: R371. -/
def execSet6L (s : State) : Result := .next (setOperand .i6 .l s)

/-- `SET 6,(HL)`: R371. -/
def execSet6IndHl (s : State) : Result := .next (setOperand .i6 .indHl s)

/-- `SET 6,A`: R371. -/
def execSet6A (s : State) : Result := .next (setOperand .i6 .a s)

/-- `SET 7,B`: R371. -/
def execSet7B (s : State) : Result := .next (setOperand .i7 .b s)

/-- `SET 7,C`: R371. -/
def execSet7C (s : State) : Result := .next (setOperand .i7 .c s)

/-- `SET 7,D`: R371. -/
def execSet7D (s : State) : Result := .next (setOperand .i7 .d s)

/-- `SET 7,E`: R371. -/
def execSet7E (s : State) : Result := .next (setOperand .i7 .e s)

/-- `SET 7,H`: R371. -/
def execSet7H (s : State) : Result := .next (setOperand .i7 .h s)

/-- `SET 7,L`: R371. -/
def execSet7L (s : State) : Result := .next (setOperand .i7 .l s)

/-- `SET 7,(HL)`: R371. -/
def execSet7IndHl (s : State) : Result := .next (setOperand .i7 .indHl s)

/-- `SET 7,A`: R371. -/
def execSet7A (s : State) : Result := .next (setOperand .i7 .a s)

end Sys2Proof.Machine
end

