-- ==== Sys2Proof/Machine/Control.lean ====
section
/-! DEFINITION. Control and miscellaneous instructions, and the illegal opcodes (48_misc_control.md). -/

namespace Sys2Proof.Machine

/-- R341. -/
def noOp (s : State) : State := s.withCycles 4

/-- R342: the operand byte has been fetched and is ignored; no further effect. -/
def stopOp (_n : Byte) (s : State) : State := s.withCycles 4

/-- R343, with the parameter `HaltBug` as an argument. -/
def haltOp (bug : HaltBug) (s : State) : State :=
  match bug with
  | .off => (s.setCpu { s.cpu with halted := true }).withCycles 4
  | .on =>
    if s.cpu.ime = false ∧ pending s ≠ 0 then (s.setCpu { s.cpu with haltBug := true }).withCycles 4
    else (s.setCpu { s.cpu with halted := true }).withCycles 4

/-- R344. -/
def disableInterrupts (s : State) : State :=
  (s.setCpu { s.cpu with ime := false, imeScheduled := false }).withCycles 4

/-- R345. -/
def scheduleEnable (s : State) : State := (s.setCpu { s.cpu with imeScheduled := true }).withCycles 4

/-- R346: N is kept. -/
def decimalAdjust (s : State) : State :=
  let (v, c) := daaAdjust s.cpu.a s.fn s.fh s.fc
  ((s.setA v).setFlags (v == 0) s.fn false c).withCycles 4

/-- R347: Z and C are kept. -/
def complementA (s : State) : State :=
  ((s.setA (~~~s.cpu.a)).setFlags s.fz true true s.fc).withCycles 4

/-- R348: Z is kept. -/
def complementCarry (s : State) : State := (s.setFlags s.fz false false (!s.fc)).withCycles 4

/-- R349: Z is kept. -/
def setCarry (s : State) : State := (s.setFlags s.fz false false true).withCycles 4

/-- R350, with the parameter `IllegalOpMode` as an argument. -/
def illegalOp (mode : IllegalOpMode) (s : State) : State :=
  match mode with
  | .nop => s.withCycles 4
  | .lock => (s.setCpu { s.cpu with locked := true }).withCycles 4

/-- `NOP`: R341. -/
def execNop (s : State) : Result := .next (noOp s)

/-- `STOP`: R342. -/
def execStop (n : Byte) (s : State) : Result := .next (stopOp n s)

/-- `DAA`: R346. -/
def execDaa (s : State) : Result := .next (decimalAdjust s)

/-- `CPL`: R347. -/
def execCpl (s : State) : Result := .next (complementA s)

/-- `SCF`: R349. -/
def execScf (s : State) : Result := .next (setCarry s)

/-- `CCF`: R348. -/
def execCcf (s : State) : Result := .next (complementCarry s)

/-- `HALT`: R343. -/
def execHalt (s : State) : Result := .next (haltOp Config.haltBug s)

/-- `ILLEGAL_D3`: R350. -/
def execIllegalD3 (s : State) : Result := .next (illegalOp Config.illegalOpMode s)

/-- `ILLEGAL_DB`: R350. -/
def execIllegalDB (s : State) : Result := .next (illegalOp Config.illegalOpMode s)

/-- `ILLEGAL_DD`: R350. -/
def execIllegalDD (s : State) : Result := .next (illegalOp Config.illegalOpMode s)

/-- `ILLEGAL_E3`: R350. -/
def execIllegalE3 (s : State) : Result := .next (illegalOp Config.illegalOpMode s)

/-- `ILLEGAL_E4`: R350. -/
def execIllegalE4 (s : State) : Result := .next (illegalOp Config.illegalOpMode s)

/-- `ILLEGAL_EB`: R350. -/
def execIllegalEB (s : State) : Result := .next (illegalOp Config.illegalOpMode s)

/-- `ILLEGAL_EC`: R350. -/
def execIllegalEC (s : State) : Result := .next (illegalOp Config.illegalOpMode s)

/-- `ILLEGAL_ED`: R350. -/
def execIllegalED (s : State) : Result := .next (illegalOp Config.illegalOpMode s)

/-- `DI`: R344. -/
def execDi (s : State) : Result := .next (disableInterrupts s)

/-- `ILLEGAL_F4`: R350. -/
def execIllegalF4 (s : State) : Result := .next (illegalOp Config.illegalOpMode s)

/-- `EI`: R345. -/
def execEi (s : State) : Result := .next (scheduleEnable s)

/-- `ILLEGAL_FC`: R350. -/
def execIllegalFC (s : State) : Result := .next (illegalOp Config.illegalOpMode s)

/-- `ILLEGAL_FD`: R350. -/
def execIllegalFD (s : State) : Result := .next (illegalOp Config.illegalOpMode s)

end Sys2Proof.Machine
end

