-- ==== Sys2Proof/Machine/Jumps.lean ====
section
/-! DEFINITION. Jumps (46_jumps.md). PC is past the jump's own bytes when its meaning starts. -/

namespace Sys2Proof.Machine

/-- R310. -/
def jump (nn : Word) (s : State) : State := (s.setPc nn).withCycles 16

/-- R311: 16 cycles taken, 12 not taken. -/
def jumpIf (cc : Cond) (nn : Word) (s : State) : State :=
  if condHolds cc s then (s.setPc nn).withCycles 16 else s.withCycles 12

/-- R312. -/
def jumpHl (s : State) : State := (s.setPc s.hl).withCycles 4

/-- R313. -/
def jumpRel (e : Byte) (s : State) : State := (s.setPc (s.cpu.pc + sext16 e)).withCycles 12

/-- R314: 12 cycles taken, 8 not taken. -/
def jumpRelIf (cc : Cond) (e : Byte) (s : State) : State :=
  if condHolds cc s then (s.setPc (s.cpu.pc + sext16 e)).withCycles 12 else s.withCycles 8

/-- `JR e`: R313. -/
def execJrE8 (e : Byte) (s : State) : Result := .next (jumpRel e s)

/-- `JR NZ,e`: R314. -/
def execJrNzE8 (e : Byte) (s : State) : Result := .next (jumpRelIf .nz e s)

/-- `JR Z,e`: R314. -/
def execJrZE8 (e : Byte) (s : State) : Result := .next (jumpRelIf .z e s)

/-- `JR NC,e`: R314. -/
def execJrNcE8 (e : Byte) (s : State) : Result := .next (jumpRelIf .nc e s)

/-- `JR C,e`: R314. -/
def execJrCE8 (e : Byte) (s : State) : Result := .next (jumpRelIf .c e s)

/-- `JP NZ,nn`: R311. -/
def execJpNzNn (nn : Word) (s : State) : Result := .next (jumpIf .nz nn s)

/-- `JP nn`: R310. -/
def execJpNn (nn : Word) (s : State) : Result := .next (jump nn s)

/-- `JP Z,nn`: R311. -/
def execJpZNn (nn : Word) (s : State) : Result := .next (jumpIf .z nn s)

/-- `JP NC,nn`: R311. -/
def execJpNcNn (nn : Word) (s : State) : Result := .next (jumpIf .nc nn s)

/-- `JP C,nn`: R311. -/
def execJpCNn (nn : Word) (s : State) : Result := .next (jumpIf .c nn s)

/-- `JP HL`: R312. -/
def execJpHl (s : State) : Result := .next (jumpHl s)

end Sys2Proof.Machine
end

