-- ==== Sys2Proof/Machine/Load16.lean ====
section
/-! DEFINITION. 16-bit loads and the stack (43_load16_stack.md). -/

namespace Sys2Proof.Machine

/-- R260. -/
def loadImm16 (p : Pair) (nn : Word) (s : State) : State := (setPair p nn s).withCycles 12

/-- R261: the low byte at nn first, then the high byte at nn + 1, which wraps. -/
def storeSp (nn : Word) (s : State) : State :=
  let s1 := memWrite s nn (loByte s.cpu.sp)
  (memWrite s1 (nn + 1) (hiByte s.cpu.sp)).withCycles 20

/-- R262. -/
def loadSpHl (s : State) : State := (s.setSp s.hl).withCycles 8

/-- R263. -/
def pushPair (p : StackPair) (s : State) : State := (push16 (stackPairValue p s) s).withCycles 16

/-- R264, R265. -/
def popPair (p : StackPair) (s : State) : State := (setStackPair p (popValue s) (popSp s)).withCycles 12

/-- `LD BC,nn`: R260. -/
def execLdBcNn (nn : Word) (s : State) : Result := .next (loadImm16 .bc nn s)

/-- `LD (nn),SP`: R261. -/
def execLdIndNnSp (nn : Word) (s : State) : Result := .next (storeSp nn s)

/-- `LD DE,nn`: R260. -/
def execLdDeNn (nn : Word) (s : State) : Result := .next (loadImm16 .de nn s)

/-- `LD HL,nn`: R260. -/
def execLdHlNn (nn : Word) (s : State) : Result := .next (loadImm16 .hl nn s)

/-- `LD SP,nn`: R260. -/
def execLdSpNn (nn : Word) (s : State) : Result := .next (loadImm16 .sp nn s)

/-- `POP BC`: R264. -/
def execPopBc (s : State) : Result := .next (popPair .bc s)

/-- `PUSH BC`: R263. -/
def execPushBc (s : State) : Result := .next (pushPair .bc s)

/-- `POP DE`: R264. -/
def execPopDe (s : State) : Result := .next (popPair .de s)

/-- `PUSH DE`: R263. -/
def execPushDe (s : State) : Result := .next (pushPair .de s)

/-- `POP HL`: R264. -/
def execPopHl (s : State) : Result := .next (popPair .hl s)

/-- `PUSH HL`: R263. -/
def execPushHl (s : State) : Result := .next (pushPair .hl s)

/-- `POP AF`: R265. -/
def execPopAf (s : State) : Result := .next (popPair .af s)

/-- `PUSH AF`: R263. -/
def execPushAf (s : State) : Result := .next (pushPair .af s)

/-- `LD SP,HL`: R262. -/
def execLdSpHl (s : State) : Result := .next (loadSpHl s)

end Sys2Proof.Machine
end

