-- ==== Sys2Proof/Machine/Load8.lean ====
section
/-! DEFINITION. 8-bit loads (41_load8.md). No load writes a flag. Each meaning starts after the instruction's
bytes have been fetched and PC is past them (R10). -/

namespace Sys2Proof.Machine

/-- R200, R202, R203: `reg8(dst) <- reg8(src)`; 4 cycles between registers, 8 through (HL). -/
def load8 (dst src : Operand8) (s : State) : State :=
  (setOperand8 dst (operand8 src s) s).withCycles (if dst = .indHl ∨ src = .indHl then 8 else 4)

/-- R201, R204: `reg8(dst) <- n`. -/
def loadImm8 (dst : Operand8) (n : Byte) (s : State) : State :=
  (setOperand8 dst n s).withCycles (costOf dst 8 12)

/-- `A <- MemRead(a, 1)` (R205, R206, R209, R211, R213). -/
def loadA (a : Word) (cycles : Nat) (s : State) : State := (s.setA (memRead s a)).withCycles cycles

/-- `MemWrite(a, 1, A)` (R207, R208, R210, R212, R214). -/
def storeA (a : Word) (cycles : Nat) (s : State) : State := (memWrite s a s.cpu.a).withCycles cycles

/-- `MemWrite(HL, 1, A); HL <- HL + step` (R215, R216). -/
def storeAStep (step : Word) (s : State) : State :=
  let s1 := memWrite s s.hl s.cpu.a
  (s1.setHl (s1.hl + step)).withCycles 8

/-- `A <- MemRead(HL, 1); HL <- HL + step` (R217, R218). -/
def loadAStep (step : Word) (s : State) : State :=
  ((s.setA (memRead s s.hl)).setHl (s.hl + step)).withCycles 8

/-- `LD (BC),A`: R207. -/
def execLdIndBcA (s : State) : Result := .next (storeA s.bc 8 s)

/-- `LD B,n`: R201. -/
def execLdBN (n : Byte) (s : State) : Result := .next (loadImm8 .b n s)

/-- `LD A,(BC)`: R205. -/
def execLdAIndBc (s : State) : Result := .next (loadA s.bc 8 s)

/-- `LD C,n`: R201. -/
def execLdCN (n : Byte) (s : State) : Result := .next (loadImm8 .c n s)

/-- `LD (DE),A`: R208. -/
def execLdIndDeA (s : State) : Result := .next (storeA s.de 8 s)

/-- `LD D,n`: R201. -/
def execLdDN (n : Byte) (s : State) : Result := .next (loadImm8 .d n s)

/-- `LD A,(DE)`: R206. -/
def execLdAIndDe (s : State) : Result := .next (loadA s.de 8 s)

/-- `LD E,n`: R201. -/
def execLdEN (n : Byte) (s : State) : Result := .next (loadImm8 .e n s)

/-- `LD (HL+),A`: R215. -/
def execLdIndHliA (s : State) : Result := .next (storeAStep 1 s)

/-- `LD H,n`: R201. -/
def execLdHN (n : Byte) (s : State) : Result := .next (loadImm8 .h n s)

/-- `LD A,(HL+)`: R217. -/
def execLdAIndHli (s : State) : Result := .next (loadAStep 1 s)

/-- `LD L,n`: R201. -/
def execLdLN (n : Byte) (s : State) : Result := .next (loadImm8 .l n s)

/-- `LD (HL-),A`: R216. -/
def execLdIndHldA (s : State) : Result := .next (storeAStep (-1) s)

/-- `LD (HL),n`: R204. -/
def execLdIndHlN (n : Byte) (s : State) : Result := .next (loadImm8 .indHl n s)

/-- `LD A,(HL-)`: R218. -/
def execLdAIndHld (s : State) : Result := .next (loadAStep (-1) s)

/-- `LD A,n`: R201. -/
def execLdAN (n : Byte) (s : State) : Result := .next (loadImm8 .a n s)

/-- `LD B,B`: R200. -/
def execLdBB (s : State) : Result := .next (load8 .b .b s)

/-- `LD B,C`: R200. -/
def execLdBC (s : State) : Result := .next (load8 .b .c s)

/-- `LD B,D`: R200. -/
def execLdBD (s : State) : Result := .next (load8 .b .d s)

/-- `LD B,E`: R200. -/
def execLdBE (s : State) : Result := .next (load8 .b .e s)

/-- `LD B,H`: R200. -/
def execLdBH (s : State) : Result := .next (load8 .b .h s)

/-- `LD B,L`: R200. -/
def execLdBL (s : State) : Result := .next (load8 .b .l s)

/-- `LD B,(HL)`: R202. -/
def execLdBIndHl (s : State) : Result := .next (load8 .b .indHl s)

/-- `LD B,A`: R200. -/
def execLdBA (s : State) : Result := .next (load8 .b .a s)

/-- `LD C,B`: R200. -/
def execLdCB (s : State) : Result := .next (load8 .c .b s)

/-- `LD C,C`: R200. -/
def execLdCC (s : State) : Result := .next (load8 .c .c s)

/-- `LD C,D`: R200. -/
def execLdCD (s : State) : Result := .next (load8 .c .d s)

/-- `LD C,E`: R200. -/
def execLdCE (s : State) : Result := .next (load8 .c .e s)

/-- `LD C,H`: R200. -/
def execLdCH (s : State) : Result := .next (load8 .c .h s)

/-- `LD C,L`: R200. -/
def execLdCL (s : State) : Result := .next (load8 .c .l s)

/-- `LD C,(HL)`: R202. -/
def execLdCIndHl (s : State) : Result := .next (load8 .c .indHl s)

/-- `LD C,A`: R200. -/
def execLdCA (s : State) : Result := .next (load8 .c .a s)

/-- `LD D,B`: R200. -/
def execLdDB (s : State) : Result := .next (load8 .d .b s)

/-- `LD D,C`: R200. -/
def execLdDC (s : State) : Result := .next (load8 .d .c s)

/-- `LD D,D`: R200. -/
def execLdDD (s : State) : Result := .next (load8 .d .d s)

/-- `LD D,E`: R200. -/
def execLdDE (s : State) : Result := .next (load8 .d .e s)

/-- `LD D,H`: R200. -/
def execLdDH (s : State) : Result := .next (load8 .d .h s)

/-- `LD D,L`: R200. -/
def execLdDL (s : State) : Result := .next (load8 .d .l s)

/-- `LD D,(HL)`: R202. -/
def execLdDIndHl (s : State) : Result := .next (load8 .d .indHl s)

/-- `LD D,A`: R200. -/
def execLdDA (s : State) : Result := .next (load8 .d .a s)

/-- `LD E,B`: R200. -/
def execLdEB (s : State) : Result := .next (load8 .e .b s)

/-- `LD E,C`: R200. -/
def execLdEC (s : State) : Result := .next (load8 .e .c s)

/-- `LD E,D`: R200. -/
def execLdED (s : State) : Result := .next (load8 .e .d s)

/-- `LD E,E`: R200. -/
def execLdEE (s : State) : Result := .next (load8 .e .e s)

/-- `LD E,H`: R200. -/
def execLdEH (s : State) : Result := .next (load8 .e .h s)

/-- `LD E,L`: R200. -/
def execLdEL (s : State) : Result := .next (load8 .e .l s)

/-- `LD E,(HL)`: R202. -/
def execLdEIndHl (s : State) : Result := .next (load8 .e .indHl s)

/-- `LD E,A`: R200. -/
def execLdEA (s : State) : Result := .next (load8 .e .a s)

/-- `LD H,B`: R200. -/
def execLdHB (s : State) : Result := .next (load8 .h .b s)

/-- `LD H,C`: R200. -/
def execLdHC (s : State) : Result := .next (load8 .h .c s)

/-- `LD H,D`: R200. -/
def execLdHD (s : State) : Result := .next (load8 .h .d s)

/-- `LD H,E`: R200. -/
def execLdHE (s : State) : Result := .next (load8 .h .e s)

/-- `LD H,H`: R200. -/
def execLdHH (s : State) : Result := .next (load8 .h .h s)

/-- `LD H,L`: R200. -/
def execLdHL (s : State) : Result := .next (load8 .h .l s)

/-- `LD H,(HL)`: R202. -/
def execLdHIndHl (s : State) : Result := .next (load8 .h .indHl s)

/-- `LD H,A`: R200. -/
def execLdHA (s : State) : Result := .next (load8 .h .a s)

/-- `LD L,B`: R200. -/
def execLdLB (s : State) : Result := .next (load8 .l .b s)

/-- `LD L,C`: R200. -/
def execLdLC (s : State) : Result := .next (load8 .l .c s)

/-- `LD L,D`: R200. -/
def execLdLD (s : State) : Result := .next (load8 .l .d s)

/-- `LD L,E`: R200. -/
def execLdLE (s : State) : Result := .next (load8 .l .e s)

/-- `LD L,H`: R200. -/
def execLdLH (s : State) : Result := .next (load8 .l .h s)

/-- `LD L,L`: R200. -/
def execLdLL (s : State) : Result := .next (load8 .l .l s)

/-- `LD L,(HL)`: R202. -/
def execLdLIndHl (s : State) : Result := .next (load8 .l .indHl s)

/-- `LD L,A`: R200. -/
def execLdLA (s : State) : Result := .next (load8 .l .a s)

/-- `LD (HL),B`: R203. -/
def execLdIndHlB (s : State) : Result := .next (load8 .indHl .b s)

/-- `LD (HL),C`: R203. -/
def execLdIndHlC (s : State) : Result := .next (load8 .indHl .c s)

/-- `LD (HL),D`: R203. -/
def execLdIndHlD (s : State) : Result := .next (load8 .indHl .d s)

/-- `LD (HL),E`: R203. -/
def execLdIndHlE (s : State) : Result := .next (load8 .indHl .e s)

/-- `LD (HL),H`: R203. -/
def execLdIndHlH (s : State) : Result := .next (load8 .indHl .h s)

/-- `LD (HL),L`: R203. -/
def execLdIndHlL (s : State) : Result := .next (load8 .indHl .l s)

/-- `LD (HL),A`: R203. -/
def execLdIndHlA (s : State) : Result := .next (load8 .indHl .a s)

/-- `LD A,B`: R200. -/
def execLdAB (s : State) : Result := .next (load8 .a .b s)

/-- `LD A,C`: R200. -/
def execLdAC (s : State) : Result := .next (load8 .a .c s)

/-- `LD A,D`: R200. -/
def execLdAD (s : State) : Result := .next (load8 .a .d s)

/-- `LD A,E`: R200. -/
def execLdAE (s : State) : Result := .next (load8 .a .e s)

/-- `LD A,H`: R200. -/
def execLdAH (s : State) : Result := .next (load8 .a .h s)

/-- `LD A,L`: R200. -/
def execLdAL (s : State) : Result := .next (load8 .a .l s)

/-- `LD A,(HL)`: R202. -/
def execLdAIndHl (s : State) : Result := .next (load8 .a .indHl s)

/-- `LD A,A`: R200. -/
def execLdAA (s : State) : Result := .next (load8 .a .a s)

/-- `LDH (n),A`: R212. -/
def execLdhIndNA (n : Byte) (s : State) : Result := .next (storeA (highPage n) 12 s)

/-- `LD (C),A`: R214. -/
def execLdIndCA (s : State) : Result := .next (storeA (highPage s.cpu.c) 8 s)

/-- `LD (nn),A`: R210. -/
def execLdIndNnA (nn : Word) (s : State) : Result := .next (storeA nn 16 s)

/-- `LDH A,(n)`: R211. -/
def execLdhAIndN (n : Byte) (s : State) : Result := .next (loadA (highPage n) 12 s)

/-- `LD A,(C)`: R213. -/
def execLdAIndC (s : State) : Result := .next (loadA (highPage s.cpu.c) 8 s)

/-- `LD A,(nn)`: R209. -/
def execLdAIndNn (nn : Word) (s : State) : Result := .next (loadA nn 16 s)

end Sys2Proof.Machine
end

