-- ==== Sys2Proof/Machine/RotateA.lean ====
section
/-! DEFINITION. Rotates of A (45_rotate_a.md): the rotates of R361 to R364 on A, but Z is always cleared. -/

namespace Sys2Proof.Machine

/-- R300 to R303. -/
def rotateA (op : RotOp) (s : State) : State :=
  ((s.setA (rotValue op s.cpu.a s.fc)).setFlags false false false (rotCarry op s.cpu.a)).withCycles 4

/-- `RLCA`: R300. -/
def execRlca (s : State) : Result := .next (rotateA .rlc s)

/-- `RRCA`: R301. -/
def execRrca (s : State) : Result := .next (rotateA .rrc s)

/-- `RLA`: R302. -/
def execRla (s : State) : Result := .next (rotateA .rl s)

/-- `RRA`: R303. -/
def execRra (s : State) : Result := .next (rotateA .rr s)

end Sys2Proof.Machine
end

