-- ==== Sys2Proof/Machine/Sequence.lean ====
section
/-! DEFINITION. The parts of one machine step (48_misc_control.md R340, 60_exceptions.md R530) and the planting of
an instruction where the next fetch finds it. -/

namespace Sys2Proof.Machine

/-- `cpu_step()` (R340): at most one instruction. -/
def cpuStep (s : State) : Result :=
  let s := promoteIme s
  if s.cpu.locked then .next (s.withCycles 4)
  else if s.cpu.halted then .next (s.withCycles 4)
  else exec (fetchInstr s) (advancePc s)

/-- The CPU's part of the machine step (R526, R530): an interrupt dispatch, or else one CPU step. -/
def cpuPhase (s : State) : Result :=
  if interruptTaken s then .next (dispatch s) else cpuStep (releaseHalt s)

/-- The devices' part of the machine step (R530). -/
def finishStep : Result → Result
  | .next s => .next (tickDevices s)
  | .fault f => .fault f
  | .refused r => .refused r

/-- The observable debug event `illegal_opcode(op, address)` (R350, R536) of the machine step from `s`, if that step
executes an illegal opcode. It changes no state, so it is a function beside the step (log entry 8). -/
def illegalOpcodeEvent (s : State) : Option (Byte × Word) :=
  if interruptTaken s then none
  else
    let s' := promoteIme (releaseHalt s)
    if s'.cpu.locked || s'.cpu.halted then none
    else
      match fetchInstr s' with
      | .illegalD3 | .illegalDB | .illegalDD | .illegalE3 | .illegalE4 | .illegalEB | .illegalEC | .illegalED
      | .illegalF4 | .illegalFC | .illegalFD => some ((fetchBytes s').1, s'.cpu.pc)
      | _ => none

/-! ## Planting an instruction -/

/-- Put a byte into the loaded ROM image at the place the bus reads for address `a` below 0x8000, making the image long
enough to hold it. -/
def plantRom (a : Nat) (v : Byte) (s : State) : State :=
  let i := s.cart.romIndex a
  { s with cart := { s.cart with rom := s.cart.rom.write i v, romSize := max s.cart.romSize (i + 1) } }

/-- Put a byte where a fetch from address `a` of ROM, WRAM or HRAM finds it. -/
def plantByte (a : Word) (v : Byte) (s : State) : State :=
  match region a with
  | .rom n => plantRom n v s
  | .wram i => s.setWram i v
  | .hram i => s.setHram i v
  | _ => s

/-- Three bytes from this address on lie in ROM, in WRAM (or its echo) or in HRAM, where every byte has storage of its
own and reads back as it was written. -/
def plantable (pc : Word) : Bool :=
  let n := pc.toNat
  decide (n ≤ 0x7FFD) || (decide (0xC000 ≤ n) && decide (n ≤ 0xFDFD)) || (decide (0xFF80 ≤ n) && decide (n ≤ 0xFFFC))

/-- A state whose next step fetches an instruction at PC: not locked, not halted, no interrupt taken, and PC where an
instruction can be planted (0xC000 if it is elsewhere). -/
def readyToFetch (s : State) : State :=
  let s1 := if interruptTaken s then s.setIo Io.intFlag 0 else s
  s1.setCpu { s1.cpu with
    locked := false, halted := false, haltBug := false, pc := if plantable s1.cpu.pc then s1.cpu.pc else 0xC000#16 }

/-- Three bytes planted from PC on in a state that will fetch them. -/
def plantBytes (b0 b1 b2 : Byte) (s : State) : State :=
  let s1 := readyToFetch s
  let pc := s1.cpu.pc
  plantByte (pc + 2) b2 (plantByte (pc + 1) b1 (plantByte pc b0 s1))

end Sys2Proof.Machine
end

