-- ==== Sys2Proof/Machine/Step.lean ====
section
/-! DEFINITION. One machine step (60_exceptions.md R530): the CPU's part, then the devices' part. -/

namespace Sys2Proof.Machine

/-- `step()` (R530). -/
def step (s : State) : Host.Outcome State Fault Refusal := finishStep (cpuPhase s)

/-- The state with a table word's instruction stored where `step` fetches its next instruction. At reset that is the
ROM at 0x0100, so it stands for a `load_rom` of an image with these bytes there (log entry 11). -/
def State.withFetchWord (s : State) (nbits w : Nat) : State :=
  let (b0, b1, b2) := tableBytes nbits w
  plantBytes b0 b1 b2 s

end Sys2Proof.Machine
end

