-- ==== Sys2Proof/Machine/HostInterface.lean ====
section
/-! DEFINITION. What the host may do between machine steps (00_scope.md section 7, 70_reset_and_hazards.md section 1).
`new_machine` is `State.zeroed`. -/

namespace Sys2Proof.Machine

/-- `init()` (R570): the state does not depend on the one before. -/
def initMachine (_s : State) : State := State.reset

/-- `reset()` (R571): `init`, but the cartridge keeps its image, its RAM, its mapper and its title; the banking
registers are reset. -/
def resetMachine (s : State) : State :=
  { State.reset with cart := { s.cart with romBank := 1, ramBank := 0, ramEnabled := false, mbcMode := false } }

/-! ## load_rom (R572 to R574) -/

/-- `hdr(a)` of R572: a missing header byte reads as 0. -/
def headerByte (file : List Byte) (a : Nat) : Byte := file.getD a 0

/-- R573: printable ASCII. -/
def printable (b : Byte) : Bool := decide (0x20 ≤ b.toNat) && decide (b.toNat ≤ 0x7E)

/-- R573: the title of an image. -/
def titleOf (file : List Byte) : List Byte :=
  ((List.range 16).map (fun i => headerByte file (0x134 + i))).takeWhile printable

/-- The cartridge that a successful `load_rom` leaves (R572, R100). -/
def cartridgeOf (file : List Byte) : Cartridge :=
  { rom := Cells.ofList 0 file, romSize := file.length, ram := [],
    ramSize := ramSizeOfByte (headerByte file 0x149), mapper := mapperOfType (headerByte file 0x147),
    romBank := 1, ramBank := 0, ramEnabled := false, mbcMode := false, title := titleOf file }

/-- R574: 8 MiB. -/
def maxRomSize : Nat := 8 * 1024 * 1024

/-- `load_rom` (R572, R574). `none` is a file that cannot be read. A failure changes no state. -/
def loadRom (file : Option (List Byte)) (s : State) : Bool × State :=
  match file with
  | none => (false, s)
  | some bytes => if maxRomSize < bytes.length then (false, s) else (true, { s with cart := cartridgeOf bytes })

/-- `rom_title(m)` (R19). -/
def romTitle (s : State) : String := String.ofList (s.cart.title.map (fun b => Char.ofNat b.toNat))

/-! ## Buttons (R16, R551, R553) -/

/-- `set_button(i, pressed)`: a press of a button that was not pressed requests interrupt 4. -/
def setButton (i : Button) (pressed : Bool) (s : State) : State :=
  let s' := { s with joypad := s.joypad.setPressed pressed i }
  if pressed = true ∧ s.joypad.pressed i = false then request 4 s' else s'

/-! ## Video and audio output (R15, R17, R18) -/

/-- Entry `y * 160 + x` of `framebuffer(m)` (R17). -/
def framebufferAt (s : State) (x y : Nat) : Shade := s.ppu.framebuffer.read (y * 160 + x)

/-- `framebuffer(m)` (R17). -/
def framebuffer (s : State) : List Shade := (List.range 23040).map s.ppu.framebuffer.read

/-- `audio(m)` (R18): the frames written since the last drain, each (left, right). -/
def audioFrames (s : State) : List (BitVec 16 × BitVec 16) :=
  (List.range s.apu.writePos).map (fun j => (s.apu.buffer.read (2 * j), s.apu.buffer.read (2 * j + 1)))

/-- The host's drain (R18): `writePos <- 0`. -/
def drainAudio (s : State) : State := { s with apu := { s.apu with writePos := 0 } }

/-- `frame_ready <- false`, which the caller does (R15, R405). -/
def clearFrameReady (s : State) : State := { s with ppu := { s.ppu with frameReady := false } }

/-- The loop of `run_frame` (R15), at most `n` steps; `none` while the frame is not ready after them. The spec's loop
has no bound (92 D61), so `run_frame` returns t exactly when some bound answers t (log entry 12). -/
def runFrameLoop : Nat → State → Option State
  | 0, s => if s.ppu.frameReady then some s else none
  | n + 1, s =>
    if s.ppu.frameReady then some s
    else
      match step s with
      | .next t => runFrameLoop n t
      | .fault _ => none
      | .refused _ => none

/-- `run_frame(m)` (R15) within `n` steps. -/
def runFrame (n : Nat) (s : State) : Option State := runFrameLoop n (clearFrameReady s)

end Sys2Proof.Machine
end

