-- ==== Sys2Proof/Safety.lean ====
section
/-! DEFINITION. What counts as a safe run, and the invariants of 10_state.md R75 in the form that a step keeps. -/

namespace Sys2Proof.Machine

/-- A run of `n` steps never stops (R520). -/
def RunsFor (s : State) (n : Nat) : Prop := ∃ t, Sys2Proof.core.run n s = .next t

/-- A safe state: every run from it goes on. -/
def Safe (s : State) : Prop := ∀ n, RunsFor s n

/-- R31, R75.1: the low nibble of F is zero. -/
def FlagsClean (s : State) : Prop := s.cpu.f &&& 0x0F#8 = 0#8

/-- R31, 92 D9, D11: the bits that only a departure from the decided parameters sets are clear. -/
def ControlClean (s : State) : Prop := s.cpu.locked = false ∧ s.cpu.haltBug = false

/-- An array in canonical form whose keys are below its size. -/
def CellsOk {w : Nat} (m : Cells w) (size : Nat) : Prop := Cells.wf m ∧ ∀ c ∈ m, c.1 < size

/-- R1, R37: every array is in canonical form and within its size. -/
def MemoryOk (s : State) : Prop :=
  CellsOk s.mem.vram 0x2000 ∧ CellsOk s.mem.wram 0x2000 ∧ CellsOk s.mem.oam 160 ∧ CellsOk s.mem.io 128 ∧
    CellsOk s.mem.hram 127 ∧ CellsOk s.cart.ram s.cart.ramSize ∧ CellsOk s.cart.rom s.cart.romSize

/-- R76, R77, R501: the two output buffers. -/
def OutputOk (s : State) : Prop :=
  CellsOk s.ppu.framebuffer 23040 ∧ CellsOk s.apu.buffer 4096 ∧ s.apu.writePos ≤ 2048

/-- R75.2, R106, R107, R109: MBC1 never holds 0 in the low five bits of `romBank`, MBC3 never bank 0. -/
def RomBankOk (s : State) : Prop :=
  match s.cart.mapper with
  | .none => True
  | .mbc1 => s.cart.romBank &&& 0x1F#9 ≠ 0#9
  | .mbc3 => s.cart.romBank ≠ 0#9
  | .mbc5 => True

/-- R48: STAT bit 7 "holds its init value 1 forever". -/
def StatTop (s : State) : Prop := bitOf (s.io Io.stat) 7 = true

/-- R75.5, R485, and the ranges of R77: an enabled channel has length ticks left. -/
def ChannelsOk (s : State) : Prop :=
  (s.apu.ch1.enabled = true → 0 < s.apu.ch1.lengthCounter) ∧ s.apu.ch1.lengthCounter ≤ 64 ∧
  (s.apu.ch2.enabled = true → 0 < s.apu.ch2.lengthCounter) ∧ s.apu.ch2.lengthCounter ≤ 64 ∧
  (s.apu.ch3.enabled = true → 0 < s.apu.ch3.lengthCounter) ∧ s.apu.ch3.lengthCounter ≤ 256 ∧
  (s.apu.ch4.enabled = true → 0 < s.apu.ch4.lengthCounter) ∧ s.apu.ch4.lengthCounter ≤ 64

/-- R75.3, R406: while the CPU does not write LY, LY is at most 153 and is below 144 outside VBlank. -/
def LineOk (s : State) : Prop :=
  (s.io Io.ly).toNat ≤ 153 ∧ (s.ppuMode ≠ 1#2 → (s.io Io.ly).toNat < 144)

/-- What a tick leaves of the accumulators (R403, R451, R544). -/
def ClocksOk (s : State) : Prop :=
  s.timer.divCycles < 256 ∧ s.timer.timaCycles < 1024 ∧ s.apu.sampleCycles < 128 ∧
    s.apu.frameSequencerCycles < 8192 ∧ s.ppu.scanlineCycles < 456

/-- The invariant of the machine. -/
def Inv (s : State) : Prop :=
  FlagsClean s ∧ ControlClean s ∧ MemoryOk s ∧ OutputOk s ∧ RomBankOk s ∧ StatTop s ∧ ChannelsOk s ∧ ClocksOk s

/-! ## The terms that the claims about instructions use -/

/-- The registers of R30, R33 and R34. -/
inductive Reg where
  | a | f | b | c | d | e | h | l | sp | pc
  deriving DecidableEq, Repr

/-- The number a register holds. -/
def Reg.value (s : State) : Reg → Nat
  | .a => s.cpu.a.toNat
  | .f => s.cpu.f.toNat
  | .b => s.cpu.b.toNat
  | .c => s.cpu.c.toNat
  | .d => s.cpu.d.toNat
  | .e => s.cpu.e.toNat
  | .h => s.cpu.h.toNat
  | .l => s.cpu.l.toNat
  | .sp => s.cpu.sp.toNat
  | .pc => s.cpu.pc.toNat

/-- Every register outside the list holds what it held. -/
def Keeps (changed : List Reg) (s t : State) : Prop := ∀ r, r ∉ changed → Reg.value t r = Reg.value s r

/-- The control bits of R36 are unchanged. -/
def SameControl (s t : State) : Prop :=
  t.cpu.halted = s.cpu.halted ∧ t.cpu.ime = s.cpu.ime ∧ t.cpu.imeScheduled = s.cpu.imeScheduled ∧
    t.cpu.locked = s.cpu.locked ∧ t.cpu.haltBug = s.cpu.haltBug

/-- Every array, every IO register, the cartridge and every device are the same. -/
def SameDevices (s t : State) : Prop :=
  t.mem = s.mem ∧ t.cart = s.cart ∧ t.ppu = s.ppu ∧ t.apu = s.apu ∧ t.timer = s.timer ∧ t.joypad = s.joypad

/-- Every byte of the address space reads as before. -/
def SameReads (s t : State) : Prop := ∀ a, memRead t a = memRead s a

/-- An instruction that stores nothing: apart from the listed registers nothing changes. -/
def RegOnly (changed : List Reg) (s t : State) : Prop :=
  Keeps changed s t ∧ SameControl s t ∧ SameDevices s t ∧ SameReads s t

/-- A bus write at `a` can change what a read at `b` returns (R81, R82, R89): the byte itself, through both of its
addresses if it is WRAM (R83); the two banked windows for a mapper write (R104); OAM for the DMA register (R88); NR52 for
an APU register (R73); VRAM for the two registers that R84 reads. -/
def affects (a b : Word) : Bool :=
  match region a, region b with
  | .rom _, .rom _ => true
  | .rom _, .cartRam _ => true
  | .vram i, .vram j => i == j
  | .cartRam i, .cartRam j => i == j
  | .wram i, .wram j => i == j
  | .oam i, .oam j => i == j
  | .joyp, .joyp => true
  | .apu i, .apu j => i == j || j == Io.nr52
  | .io i, .io j => i == j
  | .io i, .oam _ => i == Io.dma
  | .io i, .vram _ => i == Io.lcdc || i == Io.stat
  | .hram i, .hram j => i == j
  | .ie, .ie => true
  | _, _ => false

/-- The bus writes of a list, in its order. -/
def storeAll (stores : List (Word × Byte)) (s : State) : State := stores.foldl (fun u p => memWrite u p.1 p.2) s

/-- The memory and the devices are as the listed bus writes leave them, and every byte that none of them affects reads as
before. -/
def Stores (stores : List (Word × Byte)) (s t : State) : Prop :=
  SameDevices (storeAll stores s) t ∧ ∀ b, (∀ p ∈ stores, affects p.1 b = false) → memRead t b = memRead s b

/-- The address is a byte of WRAM (or its echo) or of HRAM, which every write changes and every read returns. -/
def inRam (a : Word) : Bool :=
  match region a with
  | .wram _ => true
  | .hram _ => true
  | _ => false

/-- An opcode byte of the fields x, y and z (R141). -/
def opByte (x y z : Nat) : Byte := BitVec.ofNat 8 (64 * x + 8 * y + z)

/-- The register code (R142). -/
def operandCode : Operand8 → Nat
  | .b => 0
  | .c => 1
  | .d => 2
  | .e => 3
  | .h => 4
  | .l => 5
  | .indHl => 6
  | .a => 7

/-- The pair code of `reg16` (R143). -/
def pairCode : Pair → Nat
  | .bc => 0
  | .de => 1
  | .hl => 2
  | .sp => 3

/-- The pair code of `reg16s` (R143). -/
def stackPairCode : StackPair → Nat
  | .bc => 0
  | .de => 1
  | .hl => 2
  | .af => 3

/-- The condition code (R144). -/
def condCode : Cond → Nat
  | .nz => 0
  | .z => 1
  | .nc => 2
  | .c => 3

/-- The operation code (R230). -/
def aluCode : AluOp → Nat
  | .add => 0
  | .adc => 1
  | .sub => 2
  | .sbc => 3
  | .and => 4
  | .xor => 5
  | .or => 6
  | .cp => 7

/-- The group of a rotate or shift (R147). -/
def rotCode : RotOp → Nat
  | .rlc => 0
  | .rrc => 1
  | .rl => 2
  | .rr => 3
  | .sla => 4
  | .sra => 5
  | .swap => 6
  | .srl => 7

/-- The register that a register operand names; (HL) names none. -/
def operandRegs : Operand8 → List Reg
  | .b => [.b]
  | .c => [.c]
  | .d => [.d]
  | .e => [.e]
  | .h => [.h]
  | .l => [.l]
  | .indHl => []
  | .a => [.a]

/-- The registers that a pair is a view of (R32). -/
def pairRegs : Pair → List Reg
  | .bc => [.b, .c]
  | .de => [.d, .e]
  | .hl => [.h, .l]
  | .sp => [.sp]

/-- The registers that PUSH and POP move. -/
def stackPairRegs : StackPair → List Reg
  | .bc => [.b, .c]
  | .de => [.d, .e]
  | .hl => [.h, .l]
  | .af => [.a, .f]

end Sys2Proof.Machine
end

