-- ==== Sys2Proof/WellFormed.lean ====
section
/-! DEFINITION. What is well formed (R140, R150). An operand field of an `Instr` has exactly the width its
encoding gives it, so every term of `Instr` is well formed and no check on it can fail (log entry 10). What
can be ill formed is a byte sequence offered as one instruction: it must start with an opcode byte and be as
long as that byte says. -/

namespace Sys2Proof

/-- The first check: there is an opcode byte. -/
def hasOpcode : List Byte → Bool
  | [] => false
  | _ :: _ => true

/-- The second check: the sequence is as long as its first byte says (R140). -/
def hasOpcodeLength : List Byte → Bool
  | [] => false
  | op :: rest => rest.length + 1 == opcodeLength op

/-- A byte sequence that is exactly one instruction. -/
def wellFormedBytes (bs : List Byte) : Bool := hasOpcode bs && hasOpcodeLength bs

/-- An instruction is well formed when its encoding is exactly one instruction. -/
def Instr.wellFormed (i : Instr) : Bool := wellFormedBytes (encode i)

end Sys2Proof
end

