-- ==== Sys2Proof/Certificates/Slice0/Obligations.lean ====
section
/-! DEFINITION. The statements for the provers. Each docstring names the rules of the spec that its statement
formalises, and says where a clause rests on a choice of the model. -/

/-! ## The terms of the statements, in the spec's numbers -/

namespace Sys2Proof.Machine

/-- The signed value of a byte, `s8` of R5. -/
def signed8 (e : Byte) : Int := if e.toNat < 128 then (e.toNat : Int) else (e.toNat : Int) - 256

/-- R205 to R213: the instruction loads A from `a` and changes nothing else. -/
def LoadsA (i : Instr) (bytes : List Byte) (a : Word) (cycles : Nat) (s : State) : Prop :=
  encode i = bytes ∧ ∃ t, exec i s = .next t ∧ t.cpu.a = memRead s a ∧ RegOnly [.a] s t ∧ t.cycles = cycles

/-- R203 to R214: the instruction stores `v` at `a` and changes no register. -/
def StoresByte (i : Instr) (bytes : List Byte) (a : Word) (v : Byte) (cycles : Nat) (s : State) : Prop :=
  encode i = bytes ∧
    ∃ t, exec i s = .next t ∧ Stores [(a, v)] s t ∧ Keeps [] s t ∧ SameControl s t ∧ t.cycles = cycles

/-- R230 to R238: A and the flags after an operation on A and the byte `v`. -/
def AluEffect (op : AluOp) (v : Byte) (s t : State) : Prop :=
  let a := s.cpu.a.toNat
  let x := v.toNat
  let c := s.fc.toNat
  match op with
  | .add =>
    t.cpu.a.toNat = (a + x) % 256 ∧ t.fz = decide ((a + x) % 256 = 0) ∧ t.fn = false ∧
      t.fh = decide (0x0F < a % 16 + x % 16) ∧ t.fc = decide (0xFF < a + x)
  | .adc =>
    t.cpu.a.toNat = (a + x + c) % 256 ∧ t.fz = decide ((a + x + c) % 256 = 0) ∧ t.fn = false ∧
      t.fh = decide (0x0F < a % 16 + x % 16 + c) ∧ t.fc = decide (0xFF < a + x + c)
  | .sub =>
    (t.cpu.a.toNat : Int) = ((a : Int) - x) % 256 ∧ t.fz = decide (a = x) ∧ t.fn = true ∧
      t.fh = decide (a % 16 < x % 16) ∧ t.fc = decide (a < x)
  | .sbc =>
    (t.cpu.a.toNat : Int) = ((a : Int) - x - c) % 256 ∧ t.fz = decide (((a : Int) - x - c) % 256 = 0) ∧ t.fn = true ∧
      t.fh = decide (a % 16 < x % 16 + c) ∧ t.fc = decide ((a : Int) - x - c < 0)
  | .and =>
    t.cpu.a = s.cpu.a &&& v ∧ t.fz = decide (t.cpu.a = 0) ∧ t.fn = false ∧ t.fh = true ∧ t.fc = false
  | .xor =>
    t.cpu.a = s.cpu.a ^^^ v ∧ t.fz = decide (t.cpu.a = 0) ∧ t.fn = false ∧ t.fh = false ∧ t.fc = false
  | .or =>
    t.cpu.a = s.cpu.a ||| v ∧ t.fz = decide (t.cpu.a = 0) ∧ t.fn = false ∧ t.fh = false ∧ t.fc = false
  | .cp =>
    t.cpu.a = s.cpu.a ∧ t.fz = decide (a = x) ∧ t.fn = true ∧ t.fh = decide (a % 16 < x % 16) ∧
      t.fc = decide (a < x)

/-- R239: the byte after INC and the flags; C is kept. -/
def IncEffect (old new : Byte) (s t : State) : Prop :=
  new.toNat = (old.toNat + 1) % 256 ∧ t.fz = decide (new = 0) ∧ t.fn = false ∧
    t.fh = decide (old.toNat % 16 = 15) ∧ t.fc = s.fc ∧ FlagsClean t

/-- R241: the byte after DEC and the flags; C is kept. -/
def DecEffect (old new : Byte) (s t : State) : Prop :=
  new.toNat = (old.toNat + 255) % 256 ∧ t.fz = decide (new = 0) ∧ t.fn = true ∧
    t.fh = decide (old.toNat % 16 = 0) ∧ t.fc = s.fc ∧ FlagsClean t

/-- R361 to R368: the byte `w` after a rotate or shift of `v` with carry flag `c`, and the carry flag `c'` after it. -/
def RotEffect (op : RotOp) (v c w : Nat) (c' : Bool) : Prop :=
  match op with
  | .rlc => w = (2 * v + v / 128) % 256 ∧ c' = decide (v / 128 = 1)
  | .rrc => w = v / 2 + 128 * (v % 2) ∧ c' = decide (v % 2 = 1)
  | .rl => w = (2 * v + c) % 256 ∧ c' = decide (v / 128 = 1)
  | .rr => w = v / 2 + 128 * c ∧ c' = decide (v % 2 = 1)
  | .sla => w = 2 * v % 256 ∧ c' = decide (v / 128 = 1)
  | .sra => w = v / 2 + 128 * (v / 128) ∧ c' = decide (v % 2 = 1)
  | .swap => w = 16 * (v % 16) + v / 16 ∧ c' = false
  | .srl => w = v / 2 ∧ c' = decide (v % 2 = 1)

/-- The operand of a read-modify-write form becomes `w`: a register, or the byte at HL stored there (R142, R360).
`flags` is [.f] for a form that writes flags. -/
def OperandBecomes (r : Operand8) (w : Byte) (flags : List Reg) (s t : State) : Prop :=
  if r = .indHl then Stores [(s.hl, w)] s t ∧ Keeps flags s t ∧ SameControl s t
  else operand8 r t = w ∧ RegOnly (flags ++ operandRegs r) s t

/-- R144. -/
def CondTrue (cc : Cond) (s : State) : Prop :=
  match cc with
  | .nz => s.fz = false
  | .z => s.fz = true
  | .nc => s.fc = false
  | .c => s.fc = true

/-- `push16(v)` (R8) as an effect on SP and memory. -/
def Pushes (v : Word) (s t : State) : Prop :=
  t.cpu.sp = s.cpu.sp - 2 ∧ Stores [(s.cpu.sp - 1, hiByte v), (s.cpu.sp - 2, loByte v)] s t

/-- The word that `pop16()` (R8) reads. -/
def stackTop (s : State) : Word := joinBytes (memRead s (s.cpu.sp + 1)) (memRead s s.cpu.sp)

/-- The packed-BCD byte of a number below 100. -/
def bcd (n : Nat) : Byte := BitVec.ofNat 8 (16 * (n / 10) + n % 10)

/-- The instructions that R33 names as writing SP. -/
def WritesSp (i : Instr) : Prop :=
  (∃ nn, i = .ldSpNn nn) ∨ i = .ldSpHl ∨ i = .incSp ∨ i = .decSp ∨ (∃ e, i = .addSpE8 e) ∨ (∃ p, i = Instr.push p) ∨
    (∃ p, i = Instr.pop p) ∨ (∃ nn, i = .callNn nn) ∨ (∃ nn cc, i = Instr.callCond nn cc) ∨ i = .ret ∨
    (∃ cc, i = Instr.retCond cc) ∨ i = .reti ∨ ∃ y, i = Instr.rst y

/-- The instructions that R34 names as overwriting PC. -/
def Branches (i : Instr) : Prop :=
  (∃ e, i = .jrE8 e) ∨ (∃ e cc, i = Instr.jrCond e cc) ∨ (∃ nn, i = .jpNn nn) ∨ (∃ nn cc, i = Instr.jpCond nn cc) ∨
    i = .jpHl ∨ (∃ nn, i = .callNn nn) ∨ (∃ nn cc, i = Instr.callCond nn cc) ∨ i = .ret ∨
    (∃ cc, i = Instr.retCond cc) ∨ i = .reti ∨ ∃ y, i = Instr.rst y

/-- The three bytes from PC on. -/
def bytesAtPc (s : State) : List Byte :=
  [memRead s s.cpu.pc, memRead s (s.cpu.pc + 1), memRead s (s.cpu.pc + 2)]

/-- The devices' catch-up of R530: PPU, timer, APU, each with the step's cycles. -/
def catchUp (t : State) : State := apuTick t.cycles (timerTick t.cycles (ppuTick t.cycles t))

/-- R414: the colour index of column `c` of row `r` of the tile at bus address `a`: the second byte of the row gives the
high bit, and the leftmost column is bit 7. -/
def tileColour (s : State) (a r c : Nat) : Nat :=
  2 * ((s.mem.vram.read (a + 2 * r + 1 - 0x8000)).toNat / 2 ^ (7 - c) % 2) +
    (s.mem.vram.read (a + 2 * r - 0x8000)).toNat / 2 ^ (7 - c) % 2

/-- R412, R413, R417: the colour index at (mx, my) of the 32 x 32 tile map at bus address `map`. -/
def mapColour (s : State) (map mx my : Nat) : Nat :=
  let t := s.mem.vram.read (map + my / 8 * 32 + mx / 8 - 0x8000)
  let tile : Int := if s.lcdc 4 then 0x8000 + (t.toNat : Int) * 16 else 0x9000 + signed8 t * 16
  tileColour s tile.toNat (my % 8) (mx % 8)

/-- A background or window pixel of colour index `ci`, with its shade through BGP (R415). -/
def PixelIs (s : State) (p : Pixel) (ci : Nat) : Prop :=
  p.index.toNat = ci ∧ p.shade.toNat = (s.io Io.bgp).toNat / 4 ^ ci % 4

/-- R420, R421, R422: the colour index of sprite `i` on line `ly` at column `c` of the sprite. -/
def spriteColour (s : State) (ly i c : Nat) : Nat :=
  let f := s.oamAt (4 * i + 3)
  let t := (s.oamAt (4 * i + 2)).toNat
  let h := if s.lcdc 2 then 16 else 8
  let row := ly + 16 - (s.oamAt (4 * i)).toNat
  tileColour s (0x8000 + (if s.lcdc 2 then t - t % 2 else t) * 16)
    (if f.getLsbD 6 then h - 1 - row else row) (if f.getLsbD 5 then 7 - c else c)

/-- A sprite shows at a column: it reaches the column, its pixel is not transparent, and it is not behind the background
(R422, R423). -/
def spriteShows (s : State) (ly x : Nat) (bgIndex : Shade) (i : Nat) (ci : Shade) : Prop :=
  spriteIndex s ly i x = some ci ∧ ci ≠ 0 ∧ ¬(bitOf (s.oamAt (4 * i + 3)) 7 = true ∧ bgIndex ≠ 0)

/-- A turn of the loop of R403: a PPU tick of `n` cycles stays in the mode of `s` while its `len` cycles are not over; else
it goes on from `next` with the cycles left. -/
def ModeEnds (s : State) (n len : Nat) (next : State) : Prop :=
  let total := s.ppu.scanlineCycles + n
  (total < len → ppuTick n s = s.setScanlineCycles total) ∧ (len ≤ total → ppuTick n s = ppuTick (total - len) next)

/-- R405: the requests of VBlank, in mode 1. -/
def vblankEntered (s : State) : State :=
  let t := setMode 1 s
  { t.setIo Io.intFlag (t.io Io.intFlag ||| 0x01#8) with ppu := { t.ppu with frameReady := true } }

/-- R471 to R474 and R466: a square channel after a write of `v` to its register NRk`r` (R473 for NRk4 without a trigger). -/
def squareWritten (r : Nat) (v : Byte) (ch : Square) : Square :=
  match r with
  | 1 => { ch with duty := BitVec.ofNat 2 (v.toNat / 64), lengthCounter := 64 - v.toNat % 64 }
  | 2 => { ch with enabled := ch.enabled && decide (8 ≤ v.toNat) }
  | 3 => { ch with frequency := BitVec.ofNat 11 (ch.frequency.toNat / 256 * 256 + v.toNat) }
  | _ => { ch with frequency := BitVec.ofNat 11 (ch.frequency.toNat % 256 + v.toNat % 8 * 256) }

/-- R453: a length tick of a channel whose control byte is `nrx4`. -/
def LengthClock (nrx4 : Byte) (enabled : Bool) (counter : Nat) (enabled' : Bool) (counter' : Nat) : Prop :=
  counter' = (if nrx4.getLsbD 6 then counter - 1 else counter) ∧
    enabled' = (enabled && !(nrx4.getLsbD 6 && counter == 1))

/-- R491: the amplitude of a square channel. -/
def squareLevel (ch : Square) : Int :=
  let table := [[0, 0, 0, 0, 0, 0, 0, 1], [1, 0, 0, 0, 0, 0, 0, 1], [1, 0, 0, 0, 0, 1, 1, 1], [0, 1, 1, 1, 1, 1, 1, 0]]
  if (table.getD ch.duty.toNat []).getD ch.dutyPosition.toNat 0 = 1 then ch.envelope.volume.toNat
  else -(ch.envelope.volume.toNat : Int)

/-- R495: the amplitude of channel 3. -/
def waveLevel (s : State) : Int :=
  let p := s.apu.ch3.position.toNat
  let b := (s.io (0x30 + p / 2)).toNat
  let n := if p % 2 = 0 then b / 16 else b % 16
  if s.apu.ch3.volume = 0 then 0 else ((n / 2 ^ (s.apu.ch3.volume.toNat - 1) : Nat) : Int)

/-- R493: the amplitude of channel 4. -/
def noiseLevel (ch : Noise) : Int :=
  if ch.lfsr.toNat % 2 = 1 then -(ch.envelope.volume.toNat : Int) else ch.envelope.volume.toNat

/-- R500: one side of a frame: `pan` is the bit of NR51 that pans channel 1 there, `master` the side's volume. -/
def frameSample (s : State) (pan master : Nat) : Int :=
  let part := fun (k : Nat) (enabled : Bool) (level : Int) =>
    if enabled = true ∧ (s.io Io.nr51).getLsbD (pan + k) = true then level else 0
  max (-32768) (min 32767
    ((part 0 s.apu.ch1.enabled (squareLevel s.apu.ch1) + part 1 s.apu.ch2.enabled (squareLevel s.apu.ch2) +
      part 2 s.apu.ch3.enabled (waveLevel s) + part 3 s.apu.ch4.enabled (noiseLevel s.apu.ch4)) * master))

/-- What a line of the PPU is at the start of mode 2. -/
def lineStart (s : State) (ly : Nat) : Prop :=
  s.lcdc 7 = true ∧ s.ppuMode = 2#2 ∧ (s.io Io.ly).toNat = ly ∧ s.ppu.scanlineCycles = 0

end Sys2Proof.Machine

section

open Sys2Proof Sys2Proof.Machine

/-! ## Encoding and decoding -/

/-- R140 to R150: decoding the bytes of any instruction, whatever follows them, gives that instruction back and leaves
what follows. No operand bit is lost; that the operand byte of STOP, which R149 says is ignored, is kept in the syntax is
the model's choice (log entry 10). -/
def Obligations.DecodeEncode : Prop :=
  ∀ (i : Instr) (rest : List Byte), decode (encode i ++ rest) = .ok (i, rest)

/-- R149, R150, R140: a byte sequence has one reading, of the length its first byte selects, and the
bytes can be had back: encoding what was decoded gives the same bytes. R149 excepts the operand byte of STOP, which the
hardware ignores; that decoding keeps that byte too is the model's choice (log entry 10, DEDUCED), not the spec's. With
three bytes there is always an instruction. -/
def Obligations.EncodeDecode : Prop :=
  (∀ (bs rest : List Byte) (i : Instr), decode bs = .ok (i, rest) → encode i ++ rest = bs) ∧
  ∀ (op b1 b2 : Byte) (rest : List Byte), ∃ i, decode (op :: b1 :: b2 :: rest) =
      .ok (i, (op :: b1 :: b2 :: rest).drop (opcodeLength op)) ∧
    (encode i).length = opcodeLength op ∧ 1 ≤ opcodeLength op ∧ opcodeLength op ≤ 3 ∧ i.wellFormed = true

/-- Words of the opcode map written out bit by bit, one for each format and several families. -/
def Obligations.DecodeWords : Prop :=
  decode [0b00000000#8] = .ok (.nop, []) ∧
  decode [0b01010011#8] = .ok (.ldDE, []) ∧
  decode [0b01110110#8] = .ok (.halt, []) ∧
  decode [0b00111110#8, 0x45#8] = .ok (.ldAN 0x45, []) ∧
  decode [0b10011110#8] = .ok (.sbcAIndHl, []) ∧
  decode [0b11101110#8, 0x0F#8] = .ok (.xorN 0x0F, []) ∧
  decode [0b00110001#8, 0xFF#8, 0xDF#8] = .ok (.ldSpNn 0xDFFF, []) ∧
  decode [0b11110101#8] = .ok (.pushAf, []) ∧
  decode [0b00101001#8] = .ok (.addHlHl, []) ∧
  decode [0b00110000#8, 0xFE#8] = .ok (.jrNcE8 0xFE, []) ∧
  decode [0b11011100#8, 0x00#8, 0x02#8] = .ok (.callCNn 0x0200, []) ∧
  decode [0b11101111#8] = .ok (.rst28, []) ∧
  decode [0b11001011#8, 0b00110111#8] = .ok (.swapA, []) ∧
  decode [0b11001011#8, 0b11011110#8] = .ok (.set3IndHl, []) ∧
  decode [0b11010011#8] = .ok (.illegalD3, [])

/-- R148, R350, and 92 D9 for the decided `IllegalOpMode`: the eleven illegal opcodes are one byte long, no other byte is
illegal, and each only costs 4 cycles. -/
def Obligations.IllegalOpcodes : Prop :=
  (∀ op b1 b2 : Byte, (∃ k, decodeBytes op b1 b2 = Instr.illegal k) ↔
    op ∈ [0xD3#8, 0xDB#8, 0xDD#8, 0xE3#8, 0xE4#8, 0xEB#8, 0xEC#8, 0xED#8, 0xF4#8, 0xFC#8, 0xFD#8]) ∧
  (∀ k, opcodeLength (IllegalOp.byte k) = 1 ∧ encode (Instr.illegal k) = [IllegalOp.byte k]) ∧
  ∀ k s, ∃ t, exec (Instr.illegal k) s = .next t ∧ RegOnly [] s t ∧ t.cycles = 4

/-! ## 8-bit loads -/

/-- R200, R201, R202: a load into a register writes that register and changes nothing else; `LD H,(HL)` and
`LD L,(HL)` read with the old HL. -/
def Obligations.RegisterLoads : Prop :=
  ∀ (s : State) (dst : Operand8), dst ≠ .indHl →
    (∀ r, r ≠ .indHl → encode (Instr.ld8 dst r) = [opByte 1 (operandCode dst) (operandCode r)] ∧
      ∃ t, exec (Instr.ld8 dst r) s = .next t ∧ operand8 dst t = operand8 r s ∧ RegOnly (operandRegs dst) s t ∧
        t.cycles = 4) ∧
    (∀ n, encode (Instr.ldImm8 n dst) = [opByte 0 (operandCode dst) 6, n] ∧
      ∃ t, exec (Instr.ldImm8 n dst) s = .next t ∧ operand8 dst t = n ∧ RegOnly (operandRegs dst) s t ∧ t.cycles = 8) ∧
    (encode (Instr.ld8 dst .indHl) = [opByte 1 (operandCode dst) 6] ∧
      ∃ t, exec (Instr.ld8 dst .indHl) s = .next t ∧ operand8 dst t = memRead s s.hl ∧ RegOnly (operandRegs dst) s t ∧
        t.cycles = 8)

/-- R205, R206, R209, R211, R213: the loads of A through BC, DE, an absolute address and the high page. -/
def Obligations.AccumulatorLoads : Prop :=
  ∀ (s : State) (n : Byte) (nn : Word),
    LoadsA .ldAIndBc [0x0A] s.bc 8 s ∧ LoadsA .ldAIndDe [0x1A] s.de 8 s ∧
    LoadsA (.ldAIndNn nn) [0xFA, loByte nn, hiByte nn] nn 16 s ∧
    LoadsA (.ldhAIndN n) [0xF0, n] (0xFF00#16 + n.zeroExtend 16) 12 s ∧
    LoadsA .ldAIndC [0xF2] (0xFF00#16 + s.cpu.c.zeroExtend 16) 8 s

/-- R203, R204, R207, R208, R210, R212, R214: the byte stores. No register changes, and every byte of the address space
that the bus write does not affect reads as before. -/
def Obligations.ByteStores : Prop :=
  ∀ (s : State) (n : Byte) (nn : Word),
    (∀ r, r ≠ .indHl → StoresByte (Instr.ld8 .indHl r) [opByte 1 6 (operandCode r)] s.hl (operand8 r s) 8 s) ∧
    StoresByte (Instr.ldImm8 n .indHl) [0x36, n] s.hl n 12 s ∧
    StoresByte .ldIndBcA [0x02] s.bc s.cpu.a 8 s ∧ StoresByte .ldIndDeA [0x12] s.de s.cpu.a 8 s ∧
    StoresByte (.ldIndNnA nn) [0xEA, loByte nn, hiByte nn] nn s.cpu.a 16 s ∧
    StoresByte (.ldhIndNA n) [0xE0, n] (0xFF00#16 + n.zeroExtend 16) s.cpu.a 12 s ∧
    StoresByte .ldIndCA [0xE2] (0xFF00#16 + s.cpu.c.zeroExtend 16) s.cpu.a 8 s

/-- R215 to R218: the four moves between A and (HL) that step HL, which wraps. -/
def Obligations.SteppingMoves : Prop :=
  ∀ s : State,
    (encode .ldIndHliA = [0x22] ∧ ∃ t, exec .ldIndHliA s = .next t ∧ t.hl = s.hl + 1 ∧ Keeps [.h, .l] s t ∧
      SameControl s t ∧ Stores [(s.hl, s.cpu.a)] s t ∧ t.cycles = 8) ∧
    (encode .ldIndHldA = [0x32] ∧ ∃ t, exec .ldIndHldA s = .next t ∧ t.hl = s.hl - 1 ∧ Keeps [.h, .l] s t ∧
      SameControl s t ∧ Stores [(s.hl, s.cpu.a)] s t ∧ t.cycles = 8) ∧
    (encode .ldAIndHli = [0x2A] ∧ ∃ t, exec .ldAIndHli s = .next t ∧ t.cpu.a = memRead s s.hl ∧ t.hl = s.hl + 1 ∧
      RegOnly [.a, .h, .l] s t ∧ t.cycles = 8) ∧
    (encode .ldAIndHld = [0x3A] ∧ ∃ t, exec .ldAIndHld s = .next t ∧ t.cpu.a = memRead s s.hl ∧ t.hl = s.hl - 1 ∧
      RegOnly [.a, .h, .l] s t ∧ t.cycles = 8)

/-! ## 8-bit arithmetic and logic -/

/-- R230 to R238: the eight operations with a register, (HL) or an immediate. Apart from A (which CP keeps) and F,
nothing changes, and F's low nibble is zero. -/
def Obligations.AluForms : Prop :=
  ∀ (s : State) (op : AluOp),
    (∀ r, encode (Instr.alu8 op r) = [opByte 2 (aluCode op) (operandCode r)] ∧
      ∃ t, exec (Instr.alu8 op r) s = .next t ∧ AluEffect op (operand8 r s) s t ∧ FlagsClean t ∧
        RegOnly (if op = .cp then [.f] else [.a, .f]) s t ∧ t.cycles = if r = .indHl then 8 else 4) ∧
    (∀ n, encode (Instr.aluImm n op) = [opByte 3 (aluCode op) 6, n] ∧
      ∃ t, exec (Instr.aluImm n op) s = .next t ∧ AluEffect op n s t ∧ FlagsClean t ∧
        RegOnly (if op = .cp then [.f] else [.a, .f]) s t ∧ t.cycles = 8)

/-- R239 to R242: INC and DEC of a register or of the byte at HL; C is kept. -/
def Obligations.IncDecForms : Prop :=
  ∀ (s : State) (r : Operand8),
    (encode (Instr.inc8 r) = [opByte 0 (operandCode r) 4] ∧
      ∃ t w, exec (Instr.inc8 r) s = .next t ∧ IncEffect (operand8 r s) w s t ∧ OperandBecomes r w [.f] s t ∧
        t.cycles = if r = .indHl then 12 else 4) ∧
    (encode (Instr.dec8 r) = [opByte 0 (operandCode r) 5] ∧
      ∃ t w, exec (Instr.dec8 r) s = .next t ∧ DecEffect (operand8 r s) w s t ∧ OperandBecomes r w [.f] s t ∧
        t.cycles = if r = .indHl then 12 else 4)

/-! ## 16-bit loads and the stack -/

/-- R260, R261, R262: loading a pair, storing SP (low byte first, the address wraps), copying HL to SP. -/
def Obligations.PairLoads : Prop :=
  ∀ (s : State) (nn : Word),
    (∀ p, encode (Instr.ldImm16 nn p) = [opByte 0 (2 * pairCode p) 1, loByte nn, hiByte nn] ∧
      ∃ t, exec (Instr.ldImm16 nn p) s = .next t ∧ pairValue p t = nn ∧ RegOnly (pairRegs p) s t ∧ t.cycles = 12) ∧
    (encode (.ldIndNnSp nn) = [0x08, loByte nn, hiByte nn] ∧
      ∃ t, exec (.ldIndNnSp nn) s = .next t ∧ Stores [(nn, loByte s.cpu.sp), (nn + 1, hiByte s.cpu.sp)] s t ∧
        Keeps [] s t ∧ SameControl s t ∧ t.cycles = 20) ∧
    (encode .ldSpHl = [0xF9] ∧
      ∃ t, exec .ldSpHl s = .next t ∧ t.cpu.sp = s.hl ∧ RegOnly [.sp] s t ∧ t.cycles = 8)

/-- R263, R264, R265: PUSH and POP; POP AF clears the low nibble of F. -/
def Obligations.PushPop : Prop :=
  ∀ s : State,
    (∀ p, encode (Instr.push p) = [opByte 3 (2 * stackPairCode p) 5] ∧
      ∃ t, exec (Instr.push p) s = .next t ∧ Pushes (stackPairValue p s) s t ∧ Keeps [.sp] s t ∧ SameControl s t ∧
        t.cycles = 16) ∧
    (∀ p, p ≠ .af → encode (Instr.pop p) = [opByte 3 (2 * stackPairCode p) 1] ∧
      ∃ t, exec (Instr.pop p) s = .next t ∧ stackPairValue p t = stackTop s ∧ t.cpu.sp = s.cpu.sp + 2 ∧
        RegOnly (.sp :: stackPairRegs p) s t ∧ t.cycles = 12) ∧
    (encode .popAf = [0xF1] ∧
      ∃ t, exec .popAf s = .next t ∧ t.cpu.a = hiByte (stackTop s) ∧ t.cpu.f = loByte (stackTop s) &&& 0xF0#8 ∧
        t.cpu.sp = s.cpu.sp + 2 ∧ RegOnly [.sp, .a, .f] s t ∧ t.cycles = 12)

/-- The corner cases of R264 and R265: with the stack in RAM, PUSH then POP of one pair is the identity on every
register. -/
def Obligations.PushThenPop : Prop :=
  ∀ (s : State) (p : StackPair), FlagsClean s → inRam (s.cpu.sp - 1) = true → inRam (s.cpu.sp - 2) = true →
    ∃ t u, exec (Instr.push p) s = .next t ∧ exec (Instr.pop p) t = .next u ∧ Keeps [] s u

/-! ## 16-bit arithmetic -/

/-- R280, R281, R282: ADD HL,rr keeps Z and takes H and C from bits 11 and 15; INC rr and DEC rr change no flag. -/
def Obligations.PairArithmetic : Prop :=
  ∀ (s : State) (p : Pair),
    (encode (Instr.addHl p) = [opByte 0 (2 * pairCode p + 1) 1] ∧
      ∃ t, exec (Instr.addHl p) s = .next t ∧ t.hl.toNat = (s.hl.toNat + (pairValue p s).toNat) % 65536 ∧
        t.fz = s.fz ∧ t.fn = false ∧ t.fh = decide (0x0FFF < s.hl.toNat % 4096 + (pairValue p s).toNat % 4096) ∧
        t.fc = decide (0xFFFF < s.hl.toNat + (pairValue p s).toNat) ∧ FlagsClean t ∧ RegOnly [.f, .h, .l] s t ∧
        t.cycles = 8) ∧
    (encode (Instr.inc16 p) = [opByte 0 (2 * pairCode p) 3] ∧
      ∃ t, exec (Instr.inc16 p) s = .next t ∧ (pairValue p t).toNat = ((pairValue p s).toNat + 1) % 65536 ∧
        RegOnly (pairRegs p) s t ∧ t.cycles = 8) ∧
    (encode (Instr.dec16 p) = [opByte 0 (2 * pairCode p + 1) 3] ∧
      ∃ t, exec (Instr.dec16 p) s = .next t ∧ (pairValue p t).toNat = ((pairValue p s).toNat + 65535) % 65536 ∧
        RegOnly (pairRegs p) s t ∧ t.cycles = 8)

/-- R283, R284: SP plus a signed displacement, with Z and N clear and H and C from the unsigned sum of the raw byte and
the low byte of SP. -/
def Obligations.StackDisplacement : Prop :=
  ∀ (s : State) (e : Byte),
    (encode (.addSpE8 e) = [0xE8, e] ∧
      ∃ t, exec (.addSpE8 e) s = .next t ∧ (t.cpu.sp.toNat : Int) = ((s.cpu.sp.toNat : Int) + signed8 e) % 65536 ∧
        t.fz = false ∧ t.fn = false ∧ t.fh = decide (0x0F < s.cpu.sp.toNat % 16 + e.toNat % 16) ∧
        t.fc = decide (0xFF < s.cpu.sp.toNat % 256 + e.toNat) ∧ FlagsClean t ∧ RegOnly [.f, .sp] s t ∧ t.cycles = 16) ∧
    (encode (.ldHlSpE8 e) = [0xF8, e] ∧
      ∃ t, exec (.ldHlSpE8 e) s = .next t ∧ (t.hl.toNat : Int) = ((s.cpu.sp.toNat : Int) + signed8 e) % 65536 ∧
        t.fz = false ∧ t.fn = false ∧ t.fh = decide (0x0F < s.cpu.sp.toNat % 16 + e.toNat % 16) ∧
        t.fc = decide (0xFF < s.cpu.sp.toNat % 256 + e.toNat) ∧ FlagsClean t ∧ RegOnly [.f, .h, .l] s t ∧ t.cycles = 12)

/-! ## Rotates of A, jumps, calls and returns -/

/-- R300 to R303: the rotates of A are those of the CB page on A, except that Z is always cleared. -/
def Obligations.RotatesOfA : Prop :=
  ∀ (s : State) (p : Instr × Byte × RotOp),
    p ∈ [(Instr.rlca, 0x07#8, RotOp.rlc), (.rrca, 0x0F, .rrc), (.rla, 0x17, .rl), (.rra, 0x1F, .rr)] →
    encode p.1 = [p.2.1] ∧
    ∃ t, exec p.1 s = .next t ∧ RotEffect p.2.2 s.cpu.a.toNat s.fc.toNat t.cpu.a.toNat t.fc ∧ t.fz = false ∧
      t.fn = false ∧ t.fh = false ∧ FlagsClean t ∧ RegOnly [.a, .f] s t ∧ t.cycles = 4

/-- R310 to R314: the jumps; a condition that fails leaves PC past the instruction at the short cost. -/
def Obligations.Jumps : Prop :=
  ∀ (s : State) (nn : Word) (e : Byte) (cc : Cond),
    (encode (.jpNn nn) = [0xC3, loByte nn, hiByte nn] ∧
      ∃ t, exec (.jpNn nn) s = .next t ∧ t.cpu.pc = nn ∧ RegOnly [.pc] s t ∧ t.cycles = 16) ∧
    (encode (Instr.jpCond nn cc) = [opByte 3 (condCode cc) 2, loByte nn, hiByte nn] ∧
      ∃ t, exec (Instr.jpCond nn cc) s = .next t ∧ RegOnly [.pc] s t ∧
        (CondTrue cc s → t.cpu.pc = nn ∧ t.cycles = 16) ∧ (¬CondTrue cc s → t.cpu.pc = s.cpu.pc ∧ t.cycles = 12)) ∧
    (encode .jpHl = [0xE9] ∧
      ∃ t, exec .jpHl s = .next t ∧ t.cpu.pc = s.hl ∧ RegOnly [.pc] s t ∧ t.cycles = 4) ∧
    (encode (.jrE8 e) = [0x18, e] ∧
      ∃ t, exec (.jrE8 e) s = .next t ∧ (t.cpu.pc.toNat : Int) = ((s.cpu.pc.toNat : Int) + signed8 e) % 65536 ∧
        RegOnly [.pc] s t ∧ t.cycles = 12) ∧
    (encode (Instr.jrCond e cc) = [opByte 0 (4 + condCode cc) 0, e] ∧
      ∃ t, exec (Instr.jrCond e cc) s = .next t ∧ RegOnly [.pc] s t ∧
        (CondTrue cc s →
          (t.cpu.pc.toNat : Int) = ((s.cpu.pc.toNat : Int) + signed8 e) % 65536 ∧ t.cycles = 12) ∧
        (¬CondTrue cc s → t.cpu.pc = s.cpu.pc ∧ t.cycles = 8))

/-- R320, R321, R325: the calls push the PC past their own bytes; a call not taken writes nothing. -/
def Obligations.Calls : Prop :=
  ∀ (s : State) (nn : Word) (cc : Cond) (y : Index8),
    (encode (.callNn nn) = [0xCD, loByte nn, hiByte nn] ∧
      ∃ t, exec (.callNn nn) s = .next t ∧ Pushes s.cpu.pc s t ∧ t.cpu.pc = nn ∧ Keeps [.sp, .pc] s t ∧
        SameControl s t ∧ t.cycles = 24) ∧
    (encode (Instr.callCond nn cc) = [opByte 3 (condCode cc) 4, loByte nn, hiByte nn] ∧
      ∃ t, exec (Instr.callCond nn cc) s = .next t ∧
        (CondTrue cc s → Pushes s.cpu.pc s t ∧ t.cpu.pc = nn ∧ Keeps [.sp, .pc] s t ∧ SameControl s t ∧ t.cycles = 24) ∧
        (¬CondTrue cc s → RegOnly [] s t ∧ t.cycles = 12)) ∧
    (encode (Instr.rst y) = [opByte 3 (indexNat y) 7] ∧
      ∃ t, exec (Instr.rst y) s = .next t ∧ Pushes s.cpu.pc s t ∧ t.cpu.pc.toNat = 8 * indexNat y ∧
        Keeps [.sp, .pc] s t ∧ SameControl s t ∧ t.cycles = 16)

/-- R322, R323, R324: the returns; RETI also sets `ime` at once and drops a scheduled enable. -/
def Obligations.Returns : Prop :=
  ∀ (s : State) (cc : Cond),
    (encode .ret = [0xC9] ∧
      ∃ t, exec .ret s = .next t ∧ t.cpu.pc = stackTop s ∧ t.cpu.sp = s.cpu.sp + 2 ∧ RegOnly [.pc, .sp] s t ∧
        t.cycles = 16) ∧
    (encode (Instr.retCond cc) = [opByte 3 (condCode cc) 0] ∧
      ∃ t, exec (Instr.retCond cc) s = .next t ∧
        (CondTrue cc s →
          t.cpu.pc = stackTop s ∧ t.cpu.sp = s.cpu.sp + 2 ∧ RegOnly [.pc, .sp] s t ∧ t.cycles = 20) ∧
        (¬CondTrue cc s → RegOnly [] s t ∧ t.cycles = 8)) ∧
    (encode .reti = [0xD9] ∧
      ∃ t, exec .reti s = .next t ∧ t.cpu.pc = stackTop s ∧ t.cpu.sp = s.cpu.sp + 2 ∧ t.cpu.ime = true ∧
        t.cpu.imeScheduled = false ∧ t.cpu.halted = s.cpu.halted ∧ t.cpu.locked = s.cpu.locked ∧
        t.cpu.haltBug = s.cpu.haltBug ∧ Keeps [.pc, .sp] s t ∧ SameDevices s t ∧ SameReads s t ∧ t.cycles = 16)

/-! ## Control and the rest of the base page -/

/-- R341, R342, R344, R345, and R343 under the decided `HaltBug = Off` (92 D11): NOP and STOP change nothing, HALT sets
`halted`, DI clears both enables, EI schedules one. -/
def Obligations.ControlForms : Prop :=
  ∀ (s : State) (n : Byte),
    (encode .nop = [0x00] ∧ ∃ t, exec .nop s = .next t ∧ RegOnly [] s t ∧ t.cycles = 4) ∧
    (encode (.stop n) = [0x10, n] ∧ ∃ t, exec (.stop n) s = .next t ∧ RegOnly [] s t ∧ t.cycles = 4) ∧
    (encode .halt = [0x76] ∧
      ∃ t, exec .halt s = .next t ∧ t.cpu = { s.cpu with halted := true } ∧ SameDevices s t ∧ SameReads s t ∧
        t.cycles = 4) ∧
    (encode .di = [0xF3] ∧
      ∃ t, exec .di s = .next t ∧ t.cpu = { s.cpu with ime := false, imeScheduled := false } ∧ SameDevices s t ∧
        SameReads s t ∧ t.cycles = 4) ∧
    (encode .ei = [0xFB] ∧
      ∃ t, exec .ei s = .next t ∧ t.cpu = { s.cpu with imeScheduled := true } ∧ SameDevices s t ∧ SameReads s t ∧
        t.cycles = 4)

/-- R346 to R349: DAA, CPL, CCF and SCF, with the flags they keep. -/
def Obligations.AccumulatorAdjust : Prop :=
  ∀ s : State,
    (encode .daa = [0x27] ∧
      ∃ t, exec .daa s = .next t ∧
        (s.fn = false → t.fc = (s.fc || decide (0x99 < s.cpu.a.toNat)) ∧
          t.cpu.a.toNat = (s.cpu.a.toNat + (if t.fc then 0x60 else 0) +
            (if s.fh = true ∨ 0x09 < s.cpu.a.toNat % 16 then 0x06 else 0)) % 256) ∧
        (s.fn = true → t.fc = s.fc ∧
          (t.cpu.a.toNat : Int) = ((s.cpu.a.toNat : Int) - (if s.fc then 0x60 else 0) -
            (if s.fh then 0x06 else 0)) % 256) ∧
        t.fz = decide (t.cpu.a = 0) ∧ t.fn = s.fn ∧ t.fh = false ∧ FlagsClean t ∧ RegOnly [.a, .f] s t ∧
        t.cycles = 4) ∧
    (encode .cpl = [0x2F] ∧
      ∃ t, exec .cpl s = .next t ∧ t.cpu.a = ~~~s.cpu.a ∧ t.fz = s.fz ∧ t.fn = true ∧ t.fh = true ∧ t.fc = s.fc ∧
        FlagsClean t ∧ RegOnly [.a, .f] s t ∧ t.cycles = 4) ∧
    (encode .ccf = [0x3F] ∧
      ∃ t, exec .ccf s = .next t ∧ t.fz = s.fz ∧ t.fn = false ∧ t.fh = false ∧ t.fc = !s.fc ∧ FlagsClean t ∧
        RegOnly [.f] s t ∧ t.cycles = 4) ∧
    (encode .scf = [0x37] ∧
      ∃ t, exec .scf s = .next t ∧ t.fz = s.fz ∧ t.fn = false ∧ t.fh = false ∧ t.fc = true ∧ FlagsClean t ∧
        RegOnly [.f] s t ∧ t.cycles = 4)

/-- What DAA is for (R346): after `ADD A,n` or `SUB n` of two packed-BCD numbers below 100, DAA leaves the packed-BCD sum or
difference modulo 100, with the decimal carry or borrow in C. -/
def Obligations.DecimalArithmetic : Prop :=
  ∀ (s : State) (x y : Nat), x < 100 → y < 100 → s.cpu.a = bcd x →
    (∃ t u, exec (.addAN (bcd y)) s = .next t ∧ exec .daa t = .next u ∧ u.cpu.a = bcd ((x + y) % 100) ∧
      u.fc = decide (100 ≤ x + y)) ∧
    (∃ t u, exec (.subN (bcd y)) s = .next t ∧ exec .daa t = .next u ∧ u.cpu.a = bcd ((x + 100 - y) % 100) ∧
      u.fc = decide (x < y))

/-! ## The CB page -/

/-- R360 to R368: the rotates and shifts of a register or of the byte at HL. -/
def Obligations.CbRotates : Prop :=
  ∀ (s : State) (op : RotOp) (r : Operand8),
    encode (Instr.rot op r) = [0xCB, opByte 0 (rotCode op) (operandCode r)] ∧
    ∃ t w, exec (Instr.rot op r) s = .next t ∧
      RotEffect op (operand8 r s).toNat s.fc.toNat (BitVec.toNat w) t.fc ∧ t.fz = decide (w = 0) ∧ t.fn = false ∧
      t.fh = false ∧ FlagsClean t ∧ OperandBecomes r w [.f] s t ∧ t.cycles = if r = .indHl then 16 else 8

/-- R369, R370, R371: BIT reads a bit into Z and writes no operand; RES and SET change one bit and no flag. -/
def Obligations.CbBits : Prop :=
  ∀ (s : State) (b : Index8) (r : Operand8),
    (encode (Instr.bit b r) = [0xCB, opByte 1 (indexNat b) (operandCode r)] ∧
      ∃ t, exec (Instr.bit b r) s = .next t ∧ t.fz = !(operand8 r s).getLsbD (indexNat b) ∧ t.fn = false ∧
        t.fh = true ∧ t.fc = s.fc ∧ FlagsClean t ∧ RegOnly [.f] s t ∧ t.cycles = if r = .indHl then 12 else 8) ∧
    (encode (Instr.res b r) = [0xCB, opByte 2 (indexNat b) (operandCode r)] ∧
      ∃ t w, exec (Instr.res b r) s = .next t ∧
        (∀ k, w.getLsbD k = if k = indexNat b then false else (operand8 r s).getLsbD k) ∧
        OperandBecomes r w [] s t ∧ t.cycles = if r = .indHl then 16 else 8) ∧
    (encode (Instr.set b r) = [0xCB, opByte 3 (indexNat b) (operandCode r)] ∧
      ∃ t w, exec (Instr.set b r) s = .next t ∧
        (∀ k, w.getLsbD k = if k = indexNat b then true else (operand8 r s).getLsbD k) ∧
        OperandBecomes r w [] s t ∧ t.cycles = if r = .indHl then 16 else 8)

/-! ## Rules about every instruction -/

/-- R146, R147, R588: every instruction costs one of the counts its cell of the opcode map prints, a multiple of 4 in
4..24. -/
def Obligations.CycleCounts : Prop :=
  ∀ (i : Instr) (s : State), ∃ t, exec i s = .next t ∧
    (t.cycles = i.cycleCounts.1 ∨ t.cycles = i.cycleCounts.2) ∧ t.cycles % 4 = 0 ∧ 4 ≤ t.cycles ∧ t.cycles ≤ 24

/-- R36, R343 to R345, R324: no instruction but HALT sets `halted`, none but DI and RETI changes `ime`, none but DI, EI and
RETI changes `imeScheduled`, and none changes `locked` or `haltBug` (the decided parameters, 92 D9 and D11). -/
def Obligations.ControlBits : Prop :=
  ∀ (i : Instr) (s t : State), exec i s = .next t →
    (i ≠ .halt → t.cpu.halted = s.cpu.halted) ∧ (i ≠ .di → i ≠ .reti → t.cpu.ime = s.cpu.ime) ∧
    (i ≠ .di → i ≠ .ei → i ≠ .reti → t.cpu.imeScheduled = s.cpu.imeScheduled) ∧
    t.cpu.locked = s.cpu.locked ∧ t.cpu.haltBug = s.cpu.haltBug

/-- R33, R34, R31: only the instructions that R33 names write SP, only branches overwrite PC, and F's low nibble stays
zero. -/
def Obligations.PointerWriters : Prop :=
  ∀ (i : Instr) (s t : State), exec i s = .next t →
    (¬WritesSp i → t.cpu.sp = s.cpu.sp) ∧ (¬Branches i → t.cpu.pc = s.cpu.pc) ∧ (FlagsClean s → FlagsClean t)

/-- R93, R82: no device runs inside an instruction. An instruction changes neither the PPU, the timer's accumulators, the
clocks, the outputs and the duty positions of the square channels of the APU, the ROM image, the mapper, the RAM size and
the title, nor a button latch. What a register write or a trigger can change of the APU is in MasterControl and Triggers. -/
def Obligations.DevicesFrozen : Prop :=
  ∀ (i : Instr) (s t : State), exec i s = .next t →
    t.ppu = s.ppu ∧ t.timer = s.timer ∧ t.apu.sampleCycles = s.apu.sampleCycles ∧
    t.apu.frameSequencerCycles = s.apu.frameSequencerCycles ∧ t.apu.frameSequencerStep = s.apu.frameSequencerStep ∧
    t.apu.buffer = s.apu.buffer ∧ t.apu.writePos = s.apu.writePos ∧ t.apu.ch1.dutyPosition = s.apu.ch1.dutyPosition ∧
    t.apu.ch2.dutyPosition = s.apu.ch2.dutyPosition ∧ t.cart.rom = s.cart.rom ∧ t.cart.romSize = s.cart.romSize ∧
    t.cart.ramSize = s.cart.ramSize ∧ t.cart.mapper = s.cart.mapper ∧ t.cart.title = s.cart.title ∧
    ∀ k, t.joypad.pressed k = s.joypad.pressed k

/-! ## The machine step -/

/-- R340, R530, R34: a step that takes no interrupt and is not halted or locked runs the instruction that the bytes at PC
decode to, with PC past its bytes, then lets the PPU, the timer and the APU consume its cycles. -/
def Obligations.StepRunsInstruction : Prop :=
  ∀ (s : State) (i : Instr) (rest : List Byte), interruptTaken s = false →
    (promoteIme (releaseHalt s)).cpu.locked = false → (promoteIme (releaseHalt s)).cpu.halted = false →
    (promoteIme (releaseHalt s)).cpu.haltBug = false → decode (bytesAtPc s) = .ok (i, rest) →
    ∃ t, exec i ((promoteIme (releaseHalt s)).setPc (s.cpu.pc + BitVec.ofNat 16 (encode i).length)) = .next t ∧
      step s = .next (catchUp t)

/-- R525, R526, R521, R523: a step with an enabled request pending dispatches the lowest one, runs no instruction, and
costs 20 cycles. -/
def Obligations.StepDispatches : Prop :=
  ∀ s : State, s.cpu.locked = false → s.cpu.ime = true → s.io Io.intFlag &&& s.mem.ie &&& 0x1F#8 ≠ 0#8 →
    ∃ k t, k < 5 ∧ (s.io Io.intFlag &&& s.mem.ie).getLsbD k = true ∧
      (∀ j, j < k → (s.io Io.intFlag &&& s.mem.ie).getLsbD j = false) ∧
      step s = .next (catchUp t) ∧ t.cycles = 20 ∧ t.cpu.pc.toNat = 0x40 + 8 * k ∧ t.cpu.ime = false ∧
      t.cpu.halted = false ∧ t.cpu.imeScheduled = s.cpu.imeScheduled ∧ t.cpu.sp = s.cpu.sp - 2 ∧
      Keeps [.sp, .pc] s t ∧
      SameDevices (storeAll [(s.cpu.sp - 1, hiByte s.cpu.pc), (s.cpu.sp - 2, loByte s.cpu.pc)]
        (s.setIo Io.intFlag (s.io Io.intFlag &&& ~~~(1#8 <<< k)))) t

/-- R533: a halted CPU with nothing pending keeps its registers and lets the devices advance 4 cycles; a pending request
without `ime` releases it, and the same step runs the next instruction with the request still set. -/
def Obligations.HaltedStep : Prop :=
  ∀ s : State, s.cpu.halted = true → s.cpu.locked = false → s.cpu.imeScheduled = false →
    (s.io Io.intFlag &&& s.mem.ie &&& 0x1F#8 = 0#8 →
      ∃ t, step s = .next t ∧ t.cpu = s.cpu ∧ t = catchUp (s.withCycles 4)) ∧
    (s.io Io.intFlag &&& s.mem.ie &&& 0x1F#8 ≠ 0#8 → s.cpu.ime = false →
      step s = step (s.setCpu { s.cpu with halted := false }))

/-- R345, R581: the step that runs EI leaves `ime` false, so the next step dispatches nothing; it runs one instruction with
`ime` true. -/
def Obligations.EiDelay : Prop :=
  ∀ (s t : State), s.cpu.ime = false → s.cpu.imeScheduled = false → s.cpu.locked = false → s.cpu.halted = false →
    s.cpu.haltBug = false → memRead s s.cpu.pc = 0xFB#8 → step s = .next t →
    t.cpu.ime = false ∧ interruptTaken t = false ∧
    ∃ u, exec (fetchInstr t) (advancePc (t.setCpu { t.cpu with ime := true, imeScheduled := false })) = .next u ∧
      step t = .next (catchUp u)

/-- R520: no state stops the machine: every run from every state goes on. -/
def Obligations.NoRunStops : Prop := ∀ s : State, Safe s

/-- R75, R31, R48, R485 and the sizes of R1: the invariant holds after every step from a state where it holds. The
canonical form of the arrays and the choice of the parts are the model's (log entries 3 and 26). -/
def Obligations.StepKeepsInv : Prop := ∀ s t : State, Inv s → step s = .next t → Inv t

/-- The invariant holds of the reset state. -/
def Obligations.ResetInv : Prop := Inv State.reset

/-! ## The bus -/

/-- R81, R82, R83, R84, R88, R104, R73: a bus write changes no read but that of the same address, of the address that
shares its WRAM byte, of the banked windows (a mapper write), of OAM (the DMA register), of NR52 (an APU register) and of
VRAM (LCDC and STAT, under R84). -/
def Obligations.WriteFrame : Prop :=
  ∀ (s : State) (a b : Word) (v : Byte), b ≠ a →
    ¬(a.toNat < 0x8000 ∧ (b.toNat < 0x8000 ∨ 0xA000 ≤ b.toNat ∧ b.toNat < 0xC000)) →
    ¬(0xC000 ≤ a.toNat ∧ a.toNat < 0xFE00 ∧ 0xC000 ≤ b.toNat ∧ b.toNat < 0xFE00 ∧
      (b.toNat = a.toNat + 0x2000 ∨ a.toNat = b.toNat + 0x2000)) →
    ¬(a = 0xFF46#16 ∧ 0xFE00 ≤ b.toNat ∧ b.toNat < 0xFEA0) →
    ¬(0xFF10 ≤ a.toNat ∧ a.toNat < 0xFF40 ∧ b = 0xFF26#16) →
    ¬((a = 0xFF40#16 ∨ a = 0xFF41#16) ∧ 0x8000 ≤ b.toNat ∧ b.toNat < 0xA000) →
    memRead (memWrite s a v) b = memRead s b

/-- R81 to R85: WRAM, the echo, OAM, HRAM and IE read back what was written; the echo shows WRAM offsets 0x0000 to 0x1DFF
at both addresses; the unusable area reads 0xFF and a write there changes nothing. A VRAM write is never blocked; a VRAM
read gives the byte while the LCD is off or outside mode 3, and in mode 3 the byte or 0xFF by the OPEN parameter (log
entry 1). -/
def Obligations.RamAndEcho : Prop :=
  ∀ (s : State) (a : Word) (v : Byte),
    (0xC000 ≤ a.toNat ∧ a.toNat < 0xFEA0 ∨ 0xFF80 ≤ a.toNat → memRead (memWrite s a v) a = v) ∧
    (0xC000 ≤ a.toNat ∧ a.toNat < 0xDE00 →
      memRead s (a + 0x2000) = memRead s a ∧ memRead (memWrite s a v) (a + 0x2000) = v ∧
      memRead (memWrite s (a + 0x2000) v) a = v) ∧
    (0xDE00 ≤ a.toNat ∧ a.toNat < 0xE000 → ∀ b, b ≠ a → memRead (memWrite s a v) b = memRead s b) ∧
    (0xFEA0 ≤ a.toNat ∧ a.toNat < 0xFF00 → memRead s a = 0xFF#8 ∧ memWrite s a v = s) ∧
    (0x8000 ≤ a.toNat ∧ a.toNat < 0xA000 →
      memWrite s a v = { s with mem := { s.mem with vram := s.mem.vram.write (a.toNat - 0x8000) v } } ∧
      (s.lcdc 7 = false ∨ s.ppuMode ≠ 3#2 →
        memRead s a = s.mem.vram.read (a.toNat - 0x8000) ∧ memRead (memWrite s a v) a = v) ∧
      (s.lcdc 7 = true → s.ppuMode = 3#2 →
        (Config.vramMode3Read = .passThrough →
          memRead s a = s.mem.vram.read (a.toNat - 0x8000) ∧ memRead (memWrite s a v) a = v) ∧
        (Config.vramMode3Read = .returnFF → memRead s a = 0xFF#8 ∧ memRead (memWrite s a v) a = 0xFF#8)))

/-- R41, R48, R38, R50, R470, R486: a write to DIV clears it, a write to STAT changes bits 6:3 only, and every other IO byte
but JOYP and NR52, the APU registers and wave RAM among them, reads back as written. Outside the APU and DMA the write
changes that one byte only. -/
def Obligations.IoWrites : Prop :=
  ∀ (s : State) (a : Word) (v : Byte), 0xFF00 < a.toNat → a.toNat < 0xFF80 → a ≠ 0xFF26#16 →
    (a = 0xFF04#16 → memRead (memWrite s a v) a = 0#8 ∧ memWrite s a v = s.setIo Io.div 0) ∧
    (a = 0xFF41#16 → (∀ k, (memRead (memWrite s a v) a).getLsbD k =
        if 3 ≤ k ∧ k ≤ 6 then v.getLsbD k else (memRead s a).getLsbD k) ∧
      memWrite s a v = s.setIo Io.stat (memRead (memWrite s a v) a)) ∧
    (a ≠ 0xFF04#16 → a ≠ 0xFF41#16 → memRead (memWrite s a v) a = v) ∧
    (a ≠ 0xFF04#16 → a ≠ 0xFF41#16 → a ≠ 0xFF46#16 → ¬(0xFF10 ≤ a.toNat ∧ a.toNat < 0xFF40) →
      memWrite s a v = s.setIo (a.toNat - 0xFF00) v)

/-- R88, R53: a write to DMA leaves in OAM byte i what the bus gave at `v * 256 + i` with the DMA byte stored, and changes
nothing but OAM and that byte. That the copy of a VRAM page in mode 3 follows R84 (it may read 0xFF) is the model's reading
of "the source reads through the bus" (log entry 24, DEDUCED, unsafe). -/
def Obligations.OamDma : Prop :=
  ∀ (s : State) (v : Byte), ∃ t, memWrite s 0xFF46#16 v = t ∧
    (∀ i, i < 160 → t.mem.oam.read i =
      memRead (s.setIo Io.dma v) (BitVec.ofNat 16 (v.toNat * 256 + i))) ∧
    t = { s.setIo Io.dma v with mem := { (s.setIo Io.dma v).mem with oam := t.mem.oam } }

/-- R552: what JOYP reads as, bit by bit, and what a write to it changes. -/
def Obligations.JoypadPort : Prop :=
  ∀ (s : State) (v : Byte),
    (let r := memRead s 0xFF00#16
     let j := s.joypad
     r.getLsbD 7 = true ∧ r.getLsbD 6 = true ∧ r.getLsbD 5 = !j.selectButtons ∧ r.getLsbD 4 = !j.selectDpad ∧
     r.getLsbD 0 = !(j.selectButtons && j.a || j.selectDpad && j.right) ∧
     r.getLsbD 1 = !(j.selectButtons && j.b || j.selectDpad && j.left) ∧
     r.getLsbD 2 = !(j.selectButtons && j.select || j.selectDpad && j.up) ∧
     r.getLsbD 3 = !(j.selectButtons && j.start || j.selectDpad && j.down)) ∧
    memWrite s 0xFF00#16 v =
      { s with joypad := { s.joypad with selectButtons := !v.getLsbD 5, selectDpad := !v.getLsbD 4 } }

/-- R551, R553: setting a button latch; a press of a button that was up requests interrupt 4 and nothing else does. Apart
from the latch and IF the whole machine is as before. -/
def Obligations.ButtonPress : Prop :=
  ∀ (s : State) (k : Button) (p : Bool), ∃ t, setButton k p s = t ∧
    (∀ j, t.joypad.pressed j = if j = k then p else s.joypad.pressed j) ∧
    t.io Io.intFlag = (if p = true ∧ s.joypad.pressed k = false then s.io Io.intFlag ||| 0x10#8 else s.io Io.intFlag) ∧
    (∀ n, n ≠ Io.intFlag → t.io n = s.io n) ∧ t.joypad.selectButtons = s.joypad.selectButtons ∧
    t.joypad.selectDpad = s.joypad.selectDpad ∧
    t = { s with joypad := t.joypad, mem := { s.mem with io := t.mem.io } }

/-! ## The cartridge -/

/-- R104 to R115, with 92 D13 for the decided MBC3 mask: a bus write below 0x8000 is a write to the mapper and nothing else,
and what it does to the banking registers of each mapper. -/
def Obligations.MapperWrites : Prop :=
  (∀ (s : State) (a : Word) (v : Byte), a.toNat < 0x8000 →
    memWrite s a v = { s with cart := s.cart.write a.toNat v }) ∧
  ∀ (c : Cartridge) (a : Nat) (v : Byte), a < 0x8000 →
    (c.mapper = .none → c.write a v = c) ∧
    (c.mapper ≠ .none → a < 0x2000 → c.write a v = { c with ramEnabled := decide (v.toNat % 16 = 10) }) ∧
    (c.mapper = .mbc1 → 0x2000 ≤ a ∧ a < 0x4000 → ∃ b, c.write a v = { c with romBank := b } ∧
      b.toNat = c.romBank.toNat % 128 / 32 * 32 + (if v.toNat % 32 = 0 then 1 else v.toNat % 32)) ∧
    (c.mapper = .mbc1 → 0x4000 ≤ a ∧ a < 0x6000 → c.mbcMode = false → ∃ b, c.write a v = { c with romBank := b } ∧
      b.toNat = c.romBank.toNat % 32 + v.toNat % 4 * 32) ∧
    (c.mapper = .mbc1 → 0x4000 ≤ a ∧ a < 0x6000 → c.mbcMode = true → ∃ b, c.write a v = { c with ramBank := b } ∧
      b.toNat = v.toNat % 4) ∧
    (c.mapper = .mbc1 → 0x6000 ≤ a → c.write a v = { c with mbcMode := decide (v.toNat % 2 = 1) }) ∧
    (c.mapper = .mbc3 → 0x2000 ≤ a ∧ a < 0x4000 → ∃ b, c.write a v = { c with romBank := b } ∧
      b.toNat = if v.toNat % 128 = 0 then 1 else v.toNat % 128) ∧
    (c.mapper = .mbc3 → 0x4000 ≤ a ∧ a < 0x6000 → ∃ b, c.write a v = { c with ramBank := b } ∧
      b.toNat = v.toNat % 4) ∧
    (c.mapper = .mbc5 → 0x2000 ≤ a ∧ a < 0x3000 → ∃ b, c.write a v = { c with romBank := b } ∧
      b.toNat = c.romBank.toNat / 256 * 256 + v.toNat) ∧
    (c.mapper = .mbc5 → 0x3000 ≤ a ∧ a < 0x4000 → ∃ b, c.write a v = { c with romBank := b } ∧
      b.toNat = c.romBank.toNat % 256 + v.toNat % 2 * 256) ∧
    (c.mapper = .mbc5 → 0x4000 ≤ a ∧ a < 0x6000 → ∃ b, c.write a v = { c with ramBank := b } ∧
      b.toNat = v.toNat % 16) ∧
    (c.mapper = .mbc3 ∨ c.mapper = .mbc5 → 0x6000 ≤ a → c.write a v = c)

/-- R101, R102, R103, R116, R117: the three windows of the cartridge as the bus sees them, and the RAM write. -/
def Obligations.CartridgeWindows : Prop :=
  ∀ (s : State) (a : Word) (v : Byte),
    (a.toNat < 0x4000 → memRead s a = if a.toNat < s.cart.romSize then s.cart.rom.read a.toNat else 0xFF#8) ∧
    (0x4000 ≤ a.toNat → a.toNat < 0x8000 →
      memRead s a = if s.cart.romBank.toNat * 0x4000 + (a.toNat - 0x4000) < s.cart.romSize
        then s.cart.rom.read (s.cart.romBank.toNat * 0x4000 + (a.toNat - 0x4000)) else 0xFF#8) ∧
    (0xA000 ≤ a.toNat → a.toNat < 0xC000 →
      (s.cart.ramEnabled = false ∨ s.cart.ramSize ≤ s.cart.ramBank.toNat * 0x2000 + (a.toNat - 0xA000) →
        memRead s a = 0xFF#8 ∧ memWrite s a v = s) ∧
      (s.cart.ramEnabled = true → s.cart.ramBank.toNat * 0x2000 + (a.toNat - 0xA000) < s.cart.ramSize →
        memRead s a = s.cart.ram.read (s.cart.ramBank.toNat * 0x2000 + (a.toNat - 0xA000)) ∧
        memRead (memWrite s a v) a = v))

/-! ## The timer -/

/-- R544, R545: DIV and its accumulator are one counter of T-cycles; TAC does not gate it. A timer tick changes DIV, TIMA,
IF and the two accumulators only. -/
def Obligations.DivCounts : Prop :=
  ∀ (s : State) (n : Nat), ∃ t, timerTick n s = t ∧ t.timer.divCycles < 256 ∧
    (t.io Io.div).toNat * 256 + t.timer.divCycles = ((s.io Io.div).toNat * 256 + s.timer.divCycles + n) % 65536 ∧
    (∀ k, k ≠ Io.div → k ≠ Io.tima → k ≠ Io.intFlag → t.io k = s.io k) ∧
    t = { s with timer := t.timer, mem := { s.mem with io := t.mem.io } }

/-- R544, R546, R44: while TAC[2] is 0 TIMA stands; else it counts once per period. When it wraps it goes on from TMA, so
from the first wrap on it counts round the values TMA to 0xFF, however often it wraps in the tick, and interrupt 2 is
requested. -/
def Obligations.TimaCounts : Prop :=
  ∀ (s : State) (n : Nat), ∃ t, timerTick n s = t ∧
    (bitOf (s.io Io.tac) 2 = false →
      t.io Io.tima = s.io Io.tima ∧ t.timer.timaCycles = s.timer.timaCycles ∧ t.io Io.intFlag = s.io Io.intFlag) ∧
    (bitOf (s.io Io.tac) 2 = true →
      let k := (s.timer.timaCycles + n) / timerPeriod (s.io Io.tac)
      t.timer.timaCycles = (s.timer.timaCycles + n) % timerPeriod (s.io Io.tac) ∧
      ((s.io Io.tima).toNat + k < 256 →
        (t.io Io.tima).toNat = (s.io Io.tima).toNat + k ∧ t.io Io.intFlag = s.io Io.intFlag) ∧
      (256 ≤ (s.io Io.tima).toNat + k →
        (t.io Io.tima).toNat =
          (s.io Io.tma).toNat + ((s.io Io.tima).toNat + k - 256) % (256 - (s.io Io.tma).toNat) ∧
        t.io Io.intFlag = s.io Io.intFlag ||| 0x04#8)) ∧
    timerPeriod (s.io Io.tac) = [1024, 16, 64, 256].getD ((s.io Io.tac).toNat % 4) 0

/-! ## The PPU -/

/-- R402, R404, R407: the LCD off, a mode entry, and the LYC compare, each with what it leaves as it was. -/
def Obligations.PpuSignals : Prop :=
  ∀ (s : State) (n : Nat) (m : BitVec 2),
    (s.lcdc 7 = false → ∃ t, ppuTick n s = t ∧ t.io Io.ly = 0 ∧ (∀ k, k ≠ Io.ly → t.io k = s.io k) ∧
      t = { s with ppu := { s.ppu with scanlineCycles := 0 }, mem := { s.mem with io := t.mem.io } }) ∧
    (∃ t, setMode m s = t ∧ t.ppuMode = m ∧ (∀ k, 2 ≤ k → (t.io Io.stat).getLsbD k = (s.io Io.stat).getLsbD k) ∧
      t.io Io.intFlag =
        (if m = 0 ∧ (s.io Io.stat).getLsbD 3 = true ∨ m = 1 ∧ (s.io Io.stat).getLsbD 4 = true ∨
            m = 2 ∧ (s.io Io.stat).getLsbD 5 = true then s.io Io.intFlag ||| 0x02#8 else s.io Io.intFlag) ∧
      (∀ k, k ≠ Io.stat → k ≠ Io.intFlag → t.io k = s.io k) ∧ t = { s with mem := { s.mem with io := t.mem.io } }) ∧
    (∃ t, lycCompare s = t ∧ (t.io Io.stat).getLsbD 2 = decide (s.io Io.ly = s.io Io.lyc) ∧
      (∀ k, k ≠ 2 → (t.io Io.stat).getLsbD k = (s.io Io.stat).getLsbD k) ∧
      t.io Io.intFlag = (if s.io Io.ly = s.io Io.lyc ∧ (s.io Io.stat).getLsbD 6 = true
        then s.io Io.intFlag ||| 0x02#8 else s.io Io.intFlag) ∧
      (∀ k, k ≠ Io.stat → k ≠ Io.intFlag → t.io k = s.io k) ∧ t = { s with mem := { s.mem with io := t.mem.io } })

/-- R403: only the sum of the cycles matters, not how it is cut into ticks. -/
def Obligations.PpuTicksAdd : Prop :=
  ∀ (s : State) (m n : Nat), ppuTick n (ppuTick m s) = ppuTick (m + n) s

/-- R401, R403 to R407, R410: what a tick does when each mode ends, from any state with the LCD on: the mode entries, the
renders and the LYC compares (PpuSignals and RenderRow say what each does). From the start of a visible line `ly` the PPU
draws after 80 cycles, has rendered the line and is in HBlank after 252, and after 456 the next line starts, or after line
143 VBlank, with interrupt 0 requested and `frame_ready` set. -/
def Obligations.LineTiming : Prop :=
  (∀ (s : State) (n : Nat), s.lcdc 7 = true →
    let u := s.setScanlineCycles 0
    let ly := s.io Io.ly
    (s.ppuMode = 2#2 → ModeEnds s n 80 (setMode 3 u)) ∧
    (s.ppuMode = 3#2 → ly.toNat < 144 → ModeEnds s n 172 (renderLine ly.toNat (setMode 0 u))) ∧
    (s.ppuMode = 3#2 → 144 ≤ ly.toNat → ModeEnds s n 172 (setMode 0 u)) ∧
    (s.ppuMode = 0#2 → ly ≠ 143#8 → ModeEnds s n 204 (setMode 2 (lycCompare (u.setIo Io.ly (ly + 1))))) ∧
    (s.ppuMode = 0#2 → ly = 143#8 → ModeEnds s n 204 (vblankEntered (lycCompare (u.setIo Io.ly 144)))) ∧
    (s.ppuMode = 1#2 → 144 ≤ ly.toNat → ly.toNat < 153 → ModeEnds s n 456 (lycCompare (u.setIo Io.ly (ly + 1)))) ∧
    (s.ppuMode = 1#2 → ly.toNat < 144 ∨ 153 ≤ ly.toNat → ModeEnds s n 456 (lycCompare (setMode 2 (u.setIo Io.ly 0))))) ∧
  ∀ (s : State) (ly : Nat), lineStart s ly → ly < 144 →
    let drawn := renderLine ly (setMode 0 (setMode 3 s))
    ppuTick 80 s = setMode 3 s ∧ (ppuTick 80 s).ppuMode = 3#2 ∧
    ppuTick 252 s = drawn ∧ (ppuTick 252 s).ppuMode = 0#2 ∧
    (ppuTick 252 s).ppu.framebuffer = (renderLine ly s).ppu.framebuffer ∧
    (ly < 143 → ppuTick 456 s = setMode 2 (lycCompare (drawn.setIo Io.ly (BitVec.ofNat 8 (ly + 1)))) ∧
      lineStart (ppuTick 456 s) (ly + 1) ∧ (ppuTick 456 s).ppu.frameReady = s.ppu.frameReady) ∧
    (ly = 143 → ∃ t, ppuTick 456 s = t ∧ t = vblankEntered (lycCompare (drawn.setIo Io.ly 144)) ∧ t.ppuMode = 1#2 ∧
      (t.io Io.ly).toNat = 144 ∧ t.ppu.scanlineCycles = 0 ∧ t.ppu.frameReady = true ∧ (t.io Io.intFlag).getLsbD 0 = true)

/-- R401, R406: a frame is 154 lines, 70224 cycles: from the start of line 0 to the start of the next line 0. -/
def Obligations.FrameTiming : Prop :=
  ∀ s : State, lineStart s 0 → lineStart (ppuTick 70224 s) 0 ∧ (ppuTick 70224 s).ppu.frameReady = true

/-- R75.3, R406: a tick keeps LY in 0..153, and below 144 outside VBlank. -/
def Obligations.LineKept : Prop := ∀ (s : State) (n : Nat), LineOk s → LineOk (ppuTick n s)

/-- R400, R410 to R418: a render writes the 160 entries of its line and changes nothing else; the values are those of the
three passes over the state before it, column by column (log entry 15). The background is the scrolled map's pixel, or
index and shade 0 while it is off; the window covers the columns from WX - 7 on, unscrolled, and leaves the rest. -/
def Obligations.RenderRow : Prop :=
  ∀ (s : State) (ly : Nat), ly < 144 → ∃ t, renderLine ly s = t ∧
    (∀ x, x < 160 → framebufferAt t x ly = linePixel s ly (drawOrder .xThenOam s (selectSprites s ly)) x) ∧
    (∀ k, k < ly * 160 ∨ ly * 160 + 160 ≤ k → t.ppu.framebuffer.read k = s.ppu.framebuffer.read k) ∧
    t = { s with ppu := { s.ppu with framebuffer := t.ppu.framebuffer } } ∧
    ∀ x, x < 160 →
      (s.lcdc 0 = false → bgPixel s ly x = { index := 0, shade := 0 }) ∧
      (s.lcdc 0 = true → PixelIs s (bgPixel s ly x)
        (mapColour s (if s.lcdc 3 then 0x9C00 else 0x9800) ((x + (s.io Io.scx).toNat) % 256)
          ((ly + (s.io Io.scy).toNat) % 256))) ∧
      ∀ p,
        (s.lcdc 5 = true ∧ (s.io Io.wy).toNat ≤ ly ∧ (s.io Io.wx).toNat ≤ 166 ∧ (s.io Io.wx).toNat ≤ x + 7 →
          PixelIs s (windowPixel s ly x p)
            (mapColour s (if s.lcdc 6 then 0x9C00 else 0x9800) (x + 7 - (s.io Io.wx).toNat)
              (ly - (s.io Io.wy).toNat))) ∧
        (¬(s.lcdc 5 = true ∧ (s.io Io.wy).toNat ≤ ly ∧ (s.io Io.wx).toNat ≤ 166 ∧ (s.io Io.wx).toNat ≤ x + 7) →
          windowPixel s ly x p = p)

/-- R420: at most ten sprites are selected, all on the line, and a sprite on the line is left out only when ten earlier
ones are selected. -/
def Obligations.SpriteSelection : Prop :=
  ∀ (s : State) (ly : Nat),
    (s.lcdc 1 = false → selectSprites s ly = []) ∧ (selectSprites s ly).length ≤ 10 ∧
    (selectSprites s ly).Pairwise (· < ·) ∧
    (∀ i, i ∈ selectSprites s ly → i < 40 ∧ (s.oamAt (4 * i)).toNat ≤ ly + 16 ∧
      ly + 16 < (s.oamAt (4 * i)).toNat + (if s.lcdc 2 then 16 else 8)) ∧
    (∀ i, s.lcdc 1 = true → i < 40 → (s.oamAt (4 * i)).toNat ≤ ly + 16 →
      ly + 16 < (s.oamAt (4 * i)).toNat + (if s.lcdc 2 then 16 else 8) → i ∉ selectSprites s ly →
      (selectSprites s ly).length = 10 ∧ ∀ j, j ∈ selectSprites s ly → j < i)

/-- R419, R421 to R425, with 92 D12 for the decided `SpritePriority`: a selected sprite has at each of its eight columns the
pixel of its tile row, flipped as its flags say, and at no other column any; among the selected sprites that show at a
column, the one with the lowest X, then the lowest OAM index, gives the shade; if none shows, the background or window
does. -/
def Obligations.SpritePriorityRule : Prop :=
  ∀ (s : State) (ly x : Nat),
    let p := windowPixel s ly x (bgPixel s ly x)
    let sel := selectSprites s ly
    let shown := linePixel s ly (drawOrder Config.spritePriority s sel) x
    (∀ i ∈ sel, ∀ c, c < 8 → x + 8 = (s.oamAt (4 * i + 1)).toNat + c →
      ∃ ci, spriteIndex s ly i x = some ci ∧ BitVec.toNat ci = spriteColour s ly i c) ∧
    (∀ i, (∀ c, c < 8 → x + 8 ≠ (s.oamAt (4 * i + 1)).toNat + c) → spriteIndex s ly i x = none) ∧
    ((∀ i ∈ sel, ∀ ci, ¬spriteShows s ly x p.index i ci) → shown = p.shade) ∧
    (∀ i ∈ sel, ∀ ci, spriteShows s ly x p.index i ci →
      (∀ j ∈ sel, ∀ cj, spriteShows s ly x p.index j cj → j ≠ i →
        (s.oamAt (4 * i + 1)).toNat < (s.oamAt (4 * j + 1)).toNat ∨
          (s.oamAt (4 * i + 1)).toNat = (s.oamAt (4 * j + 1)).toNat ∧ i < j) →
      shown = shadeOf (if bitOf (s.oamAt (4 * i + 3)) 4 then s.io Io.obp1 else s.io Io.obp0) ci)

/-! ## The APU -/

/-- R466, R470 to R478, R483, R484, R486, R73: what a write to an APU register leaves. NR52 is the master enable with the
channel flags in its low bits; clearing it disables the four channels and stores no byte. Every other write stores its byte
and, whatever the master enable, sets the fields of its register and no other; a write that turns a DAC off disables the
channel. What a trigger adds is in Triggers. -/
def Obligations.MasterControl : Prop :=
  (∀ (s : State) (v : Byte), ∃ t, memWrite s 0xFF26#16 v = t ∧
    t = { s with apu := { s.apu with
      masterEnable := v.getLsbD 7
      ch1 := { s.apu.ch1 with enabled := s.apu.ch1.enabled && v.getLsbD 7 }
      ch2 := { s.apu.ch2 with enabled := s.apu.ch2.enabled && v.getLsbD 7 }
      ch3 := { s.apu.ch3 with enabled := s.apu.ch3.enabled && v.getLsbD 7 }
      ch4 := { s.apu.ch4 with enabled := s.apu.ch4.enabled && v.getLsbD 7 } } } ∧
    (memRead t 0xFF26#16).toNat = 128 * t.apu.masterEnable.toNat + 112 + 8 * t.apu.ch4.enabled.toNat +
      4 * t.apu.ch3.enabled.toNat + 2 * t.apu.ch2.enabled.toNat + t.apu.ch1.enabled.toNat) ∧
  ∀ (s : State) (k : Nat) (v : Byte), 0x10 ≤ k → k < 0x40 → k ≠ 0x26 →
    ∃ u, memWrite s (BitVec.ofNat 16 (0xFF00 + k)) v = { s.setIo k v with apu := u } ∧
    (k = 0x10 → u = { s.apu with sweep := { s.apu.sweep with
      period := BitVec.ofNat 3 (v.toNat / 16 % 8), negate := v.getLsbD 3, shift := BitVec.ofNat 3 (v.toNat % 8) } }) ∧
    (k ∈ [0x11, 0x12, 0x13] ∨ k = 0x14 ∧ v.getLsbD 7 = false →
      u = { s.apu with ch1 := squareWritten (k - 0x10) v s.apu.ch1 }) ∧
    (k ∈ [0x16, 0x17, 0x18] ∨ k = 0x19 ∧ v.getLsbD 7 = false →
      u = { s.apu with ch2 := squareWritten (k - 0x15) v s.apu.ch2 }) ∧
    (k = 0x1A → u = { s.apu with ch3 := { s.apu.ch3 with
      dacEnabled := v.getLsbD 7, enabled := s.apu.ch3.enabled && v.getLsbD 7 } }) ∧
    (k = 0x1B → u = { s.apu with ch3 := { s.apu.ch3 with lengthCounter := 256 - v.toNat } }) ∧
    (k = 0x1C → u = { s.apu with ch3 := { s.apu.ch3 with volume := BitVec.ofNat 2 (v.toNat / 32 % 4) } }) ∧
    (k = 0x1D → u = { s.apu with ch3 := { s.apu.ch3 with
      frequency := BitVec.ofNat 11 (s.apu.ch3.frequency.toNat / 256 * 256 + v.toNat) } }) ∧
    (k = 0x1E → v.getLsbD 7 = false → u = { s.apu with ch3 := { s.apu.ch3 with
      frequency := BitVec.ofNat 11 (s.apu.ch3.frequency.toNat % 256 + v.toNat % 8 * 256) } }) ∧
    (k = 0x20 → u = { s.apu with ch4 := { s.apu.ch4 with lengthCounter := 64 - v.toNat % 64 } }) ∧
    (k = 0x21 → u = { s.apu with ch4 := { s.apu.ch4 with enabled := s.apu.ch4.enabled && decide (8 ≤ v.toNat) } }) ∧
    (k = 0x22 → u = { s.apu with ch4 := { s.apu.ch4 with
      shiftAmount := BitVec.ofNat 4 (v.toNat / 16), widthMode := v.getLsbD 3, divisor := BitVec.ofNat 3 (v.toNat % 8) } }) ∧
    (k = 0x23 ∧ v.getLsbD 7 = false ∨ k ∈ [0x15, 0x1F, 0x24, 0x25] ∨ 0x27 ≤ k → u = s.apu)

/-- R479 to R482: what a trigger leaves in each channel; every other field of the machine but the byte stored is as before. -/
def Obligations.Triggers : Prop :=
  ∀ (s : State) (v : Byte), v.getLsbD 7 = true →
    (∃ t, memWrite s 0xFF14#16 v = t ∧
      t.apu.ch1.frequency.toNat = s.apu.ch1.frequency.toNat % 256 + v.toNat % 8 * 256 ∧
      t.apu.ch1.enabled = (s.apu.ch1.enabled || s.apu.masterEnable && decide (8 ≤ (s.io Io.nr12).toNat)) ∧
      t.apu.ch1.frequencyTimer = (2048 - t.apu.ch1.frequency.toNat) * 4 ∧
      t.apu.ch1.lengthCounter = (if s.apu.ch1.lengthCounter = 0 then 64 else s.apu.ch1.lengthCounter) ∧
      t.apu.ch1.envelope.volume.toNat = (s.io Io.nr12).toNat / 16 ∧
      t.apu.ch1.envelope.increase = (s.io Io.nr12).getLsbD 3 ∧
      t.apu.ch1.envelope.period.toNat = (s.io Io.nr12).toNat % 8 ∧
      t.apu.ch1.envelope.timer = (s.io Io.nr12).toNat % 8 ∧
      t = { s.setIo Io.nr14 v with apu := { s.apu with
        ch1 := { s.apu.ch1 with frequency := t.apu.ch1.frequency, enabled := t.apu.ch1.enabled,
                                frequencyTimer := t.apu.ch1.frequencyTimer, lengthCounter := t.apu.ch1.lengthCounter,
                                envelope := t.apu.ch1.envelope }
        sweep := { s.apu.sweep with shadowFrequency := t.apu.ch1.frequency, timer := s.apu.sweep.period.toNat } } }) ∧
    (∃ t, memWrite s 0xFF19#16 v = t ∧
      t.apu.ch2.frequency.toNat = s.apu.ch2.frequency.toNat % 256 + v.toNat % 8 * 256 ∧
      t.apu.ch2.enabled = (s.apu.ch2.enabled || s.apu.masterEnable && decide (8 ≤ (s.io Io.nr22).toNat)) ∧
      t.apu.ch2.frequencyTimer = (2048 - t.apu.ch2.frequency.toNat) * 4 ∧
      t.apu.ch2.lengthCounter = (if s.apu.ch2.lengthCounter = 0 then 64 else s.apu.ch2.lengthCounter) ∧
      t.apu.ch2.envelope.volume.toNat = (s.io Io.nr22).toNat / 16 ∧
      t.apu.ch2.envelope.increase = (s.io Io.nr22).getLsbD 3 ∧
      t.apu.ch2.envelope.period.toNat = (s.io Io.nr22).toNat % 8 ∧
      t.apu.ch2.envelope.timer = (s.io Io.nr22).toNat % 8 ∧
      t = { s.setIo Io.nr24 v with apu := { s.apu with
        ch2 := { s.apu.ch2 with frequency := t.apu.ch2.frequency, enabled := t.apu.ch2.enabled,
                                frequencyTimer := t.apu.ch2.frequencyTimer, lengthCounter := t.apu.ch2.lengthCounter,
                                envelope := t.apu.ch2.envelope } } }) ∧
    (∃ t, memWrite s 0xFF1E#16 v = t ∧
      t.apu.ch3.frequency.toNat = s.apu.ch3.frequency.toNat % 256 + v.toNat % 8 * 256 ∧
      t.apu.ch3.enabled = (s.apu.ch3.enabled || s.apu.masterEnable && s.apu.ch3.dacEnabled) ∧
      t.apu.ch3.frequencyTimer = (2048 - t.apu.ch3.frequency.toNat) * 2 ∧
      t.apu.ch3.lengthCounter = (if s.apu.ch3.lengthCounter = 0 then 256 else s.apu.ch3.lengthCounter) ∧
      t = { s.setIo Io.nr34 v with apu := { s.apu with
        ch3 := { s.apu.ch3 with frequency := t.apu.ch3.frequency, enabled := t.apu.ch3.enabled,
                                frequencyTimer := t.apu.ch3.frequencyTimer, lengthCounter := t.apu.ch3.lengthCounter,
                                position := 0 } } }) ∧
    (∃ t, memWrite s 0xFF23#16 v = t ∧
      t.apu.ch4.enabled = (s.apu.ch4.enabled || s.apu.masterEnable && decide (8 ≤ (s.io Io.nr42).toNat)) ∧
      t.apu.ch4.frequencyTimer =
        (if s.apu.ch4.divisor = 0 then 8 else s.apu.ch4.divisor.toNat * 16) * 2 ^ s.apu.ch4.shiftAmount.toNat ∧
      t.apu.ch4.lengthCounter = (if s.apu.ch4.lengthCounter = 0 then 64 else s.apu.ch4.lengthCounter) ∧
      t.apu.ch4.envelope.volume.toNat = (s.io Io.nr42).toNat / 16 ∧
      t.apu.ch4.envelope.increase = (s.io Io.nr42).getLsbD 3 ∧
      t.apu.ch4.envelope.period.toNat = (s.io Io.nr42).toNat % 8 ∧
      t.apu.ch4.envelope.timer = (s.io Io.nr42).toNat % 8 ∧
      t = { s.setIo Io.nr44 v with apu := { s.apu with
        ch4 := { s.apu.ch4 with enabled := t.apu.ch4.enabled, frequencyTimer := t.apu.ch4.frequencyTimer,
                                lengthCounter := t.apu.ch4.lengthCounter, envelope := t.apu.ch4.envelope,
                                lfsr := 0x7FFF#15 } } })

/-- R451 to R454, R456: the frame sequencer steps once per 8192 cycles; even steps clock the lengths, steps 2 and 6 the
sweep, step 7 the envelopes, and every step moves to the next. A length tick lowers the counters of the channels that enable
it and disables a channel whose counter runs out. The sweep's overflow disables channel 1 and never writes a frequency above
2047; an envelope's volume moves one step toward its direction and stays in 0..15. Timers are natural numbers (log entry
14). -/
def Obligations.SweepAndEnvelope : Prop :=
  (∀ (s : State) (n : Nat),
    let total := s.apu.frameSequencerCycles + n
    (total < 8192 → frameSequencerTick n s = { s with apu := { s.apu with frameSequencerCycles := total } }) ∧
    (8192 ≤ total → frameSequencerTick n s =
      frameSequencerTick (total - 8192)
        (Machine.frameSequencerStep { s with apu := { s.apu with frameSequencerCycles := 0 } }))) ∧
  (∀ s : State,
    let n := s.apu.frameSequencerStep.toNat
    let next : BitVec 3 := BitVec.ofNat 3 ((n + 1) % 8)
    (n ∈ [1, 3, 5] → Machine.frameSequencerStep s = { s with apu := { s.apu with frameSequencerStep := next } }) ∧
    (n ∈ [0, 4] → Machine.frameSequencerStep s =
      { s with apu := { (lengthTick s).apu with frameSequencerStep := next } }) ∧
    (n ∈ [2, 6] → Machine.frameSequencerStep s =
      { s with apu := { sweepTick (lengthTick s).apu with frameSequencerStep := next } }) ∧
    (n = 7 → Machine.frameSequencerStep s =
      { s with apu := { s.apu with
          ch1 := { s.apu.ch1 with envelope := s.apu.ch1.envelope.tick }
          ch2 := { s.apu.ch2 with envelope := s.apu.ch2.envelope.tick }
          ch4 := { s.apu.ch4 with envelope := s.apu.ch4.envelope.tick }
          frameSequencerStep := next } })) ∧
  (∀ s : State, ∃ u, (lengthTick s).apu = u ∧
    LengthClock (s.io Io.nr14) s.apu.ch1.enabled s.apu.ch1.lengthCounter u.ch1.enabled u.ch1.lengthCounter ∧
    LengthClock (s.io Io.nr24) s.apu.ch2.enabled s.apu.ch2.lengthCounter u.ch2.enabled u.ch2.lengthCounter ∧
    LengthClock (s.io Io.nr34) s.apu.ch3.enabled s.apu.ch3.lengthCounter u.ch3.enabled u.ch3.lengthCounter ∧
    LengthClock (s.io Io.nr44) s.apu.ch4.enabled s.apu.ch4.lengthCounter u.ch4.enabled u.ch4.lengthCounter ∧
    lengthTick s = { s with apu := { s.apu with
      ch1 := { s.apu.ch1 with enabled := u.ch1.enabled, lengthCounter := u.ch1.lengthCounter }
      ch2 := { s.apu.ch2 with enabled := u.ch2.enabled, lengthCounter := u.ch2.lengthCounter }
      ch3 := { s.apu.ch3 with enabled := u.ch3.enabled, lengthCounter := u.ch3.lengthCounter }
      ch4 := { s.apu.ch4 with enabled := u.ch4.enabled, lengthCounter := u.ch4.lengthCounter } } }) ∧
  (∀ u : Apu,
    (u.sweep.period = 0 → sweepTick u = u) ∧
    (u.sweep.period ≠ 0 → 1 < u.sweep.timer →
      sweepTick u = { u with sweep := { u.sweep with timer := u.sweep.timer - 1 } }) ∧
    (u.sweep.period ≠ 0 → u.sweep.timer ≤ 1 →
      let d := u.sweep.shadowFrequency.toNat / 2 ^ u.sweep.shift.toNat
      let f := if u.sweep.negate then u.sweep.shadowFrequency.toNat - d else u.sweep.shadowFrequency.toNat + d
      (sweepTick u).sweep.timer = u.sweep.period.toNat ∧
      (2047 < f → (sweepTick u).ch1.enabled = false ∧ (sweepTick u).ch1.frequency = u.ch1.frequency ∧
        (sweepTick u).sweep.shadowFrequency = u.sweep.shadowFrequency) ∧
      (f ≤ 2047 → (sweepTick u).ch1.enabled = u.ch1.enabled) ∧
      (f ≤ 2047 → u.sweep.shift ≠ 0 →
        (sweepTick u).ch1.frequency.toNat = f ∧ (sweepTick u).sweep.shadowFrequency.toNat = f) ∧
      (f ≤ 2047 → u.sweep.shift = 0 → (sweepTick u).ch1.frequency = u.ch1.frequency ∧
        (sweepTick u).sweep.shadowFrequency = u.sweep.shadowFrequency))) ∧
  ∀ e : Envelope,
    (e.period = 0 → e.tick = e) ∧
    (e.period ≠ 0 → 1 < e.timer → e.tick = { e with timer := e.timer - 1 }) ∧
    (e.period ≠ 0 → e.timer ≤ 1 → e.tick.timer = e.period.toNat ∧
      e.tick.volume.toNat =
        (if e.increase then min 15 (e.volume.toNat + 1) else e.volume.toNat - 1))

/-- R490, R492: the frequency timer after a tick is positive, and accounts for every cycle: the cycles spent are the old
timer's plus one period for each reload less the new timer's (log entry 6). Each reload of a channel's timer moves its
position by one or steps its LFSR, and a tick changes nothing else of a channel. -/
def Obligations.FrequencyTimers : Prop :=
  (∀ (timer cycles period : Nat), 0 < period →
    ∃ t k, advanceTimer timer cycles period = (t, k) ∧ t + cycles = timer + k * period ∧
      (0 < timer ∨ 0 < k → 0 < t) ∧ (0 < k → t ≤ period) ∧ (k = 0 → cycles < timer)) ∧
  (∀ (u : Apu) (n : Nat), ∃ v k1 k2 k3 k4, advanceGenerators n u = v ∧
    advanceTimer u.ch1.frequencyTimer n ((2048 - u.ch1.frequency.toNat) * 4) = (v.ch1.frequencyTimer, k1) ∧
    v.ch1.dutyPosition.toNat = (u.ch1.dutyPosition.toNat + k1) % 8 ∧
    advanceTimer u.ch2.frequencyTimer n ((2048 - u.ch2.frequency.toNat) * 4) = (v.ch2.frequencyTimer, k2) ∧
    v.ch2.dutyPosition.toNat = (u.ch2.dutyPosition.toNat + k2) % 8 ∧
    advanceTimer u.ch3.frequencyTimer n ((2048 - u.ch3.frequency.toNat) * 2) = (v.ch3.frequencyTimer, k3) ∧
    v.ch3.position.toNat = (u.ch3.position.toNat + k3) % 32 ∧
    advanceTimer u.ch4.frequencyTimer n
      ((if u.ch4.divisor = 0 then 8 else u.ch4.divisor.toNat * 16) * 2 ^ u.ch4.shiftAmount.toNat) =
      (v.ch4.frequencyTimer, k4) ∧
    v.ch4.lfsr = applyTimes (lfsrStep u.ch4.widthMode) k4 u.ch4.lfsr ∧
    v = { u with
      ch1 := { u.ch1 with frequencyTimer := v.ch1.frequencyTimer, dutyPosition := v.ch1.dutyPosition }
      ch2 := { u.ch2 with frequencyTimer := v.ch2.frequencyTimer, dutyPosition := v.ch2.dutyPosition }
      ch3 := { u.ch3 with frequencyTimer := v.ch3.frequencyTimer, position := v.ch3.position }
      ch4 := { u.ch4 with frequencyTimer := v.ch4.frequencyTimer, lfsr := v.ch4.lfsr } }) ∧
  ∀ l : BitVec 15,
    let b := (l.toNat + l.toNat / 2) % 2
    let shifted := l.toNat / 2 + 2 ^ 14 * b
    (lfsrStep false l).toNat = shifted ∧
    (lfsrStep true l).toNat = shifted / 128 * 128 + 64 * b + shifted % 64

/-- R451, R491, R493, R495, R500, R501, with 92 D34 for the decided `AudioGain` and D50: an APU tick runs the generators,
then the frame sequencer, then the sample clock, each with all its cycles. The sample clock appends one frame per 128
cycles until the buffer is full, never past 2048 frames; each frame is the mix of the enabled channels panned to its side,
times that side's master volume, left sample first. With every channel disabled a frame is silent. A sample is stored in
two's complement (log entry 17). -/
def Obligations.SampleClock : Prop :=
  (∀ (s : State) (n : Nat),
    apuTick n s = sampleTick n (frameSequencerTick n { s with apu := advanceGenerators n s.apu })) ∧
  ∀ (s : State) (n : Nat), s.apu.writePos ≤ 2048 → ∃ t, sampleTick n s = t ∧
    t.apu.sampleCycles = (s.apu.sampleCycles + n) % 128 ∧
    t.apu.writePos = min 2048 (s.apu.writePos + (s.apu.sampleCycles + n) / 128) ∧
    (∀ k, k < 2 * s.apu.writePos → t.apu.buffer.read k = s.apu.buffer.read k) ∧
    (∀ j, s.apu.writePos ≤ j → j < t.apu.writePos →
      (t.apu.buffer.read (2 * j)).toInt = frameSample s 4 ((s.io Io.nr50).toNat / 16 % 8) ∧
      (t.apu.buffer.read (2 * j + 1)).toInt = frameSample s 0 ((s.io Io.nr50).toNat % 8)) ∧
    (s.apu.ch1.enabled = false → s.apu.ch2.enabled = false → s.apu.ch3.enabled = false → s.apu.ch4.enabled = false →
      ∀ k, 2 * s.apu.writePos ≤ k → k < 2 * t.apu.writePos → t.apu.buffer.read k = 0#16) ∧
    t = { s with apu := { s.apu with
      sampleCycles := t.apu.sampleCycles, writePos := t.apu.writePos, buffer := t.apu.buffer } }

/-! ## Reset and loading -/

/-- R570: the values `init` leaves. -/
def Obligations.ResetValues : Prop :=
  let s := State.reset
  s.cpu.a = 0x01#8 ∧ s.cpu.f = 0xB0#8 ∧ s.bc = 0x0013#16 ∧ s.de = 0x00D8#16 ∧ s.hl = 0x014D#16 ∧
  s.cpu.sp = 0xFFFE#16 ∧ s.cpu.pc = 0x0100#16 ∧
  (∀ k, s.io k = if k = 0x40 then 0x91#8 else if k = 0x41 then 0x85#8 else if k = 0x47 then 0xFC#8 else 0#8) ∧
  s.cart = { State.zeroed.cart with romBank := 1 } ∧
  s = { State.zeroed with cpu := { s.cpu with halted := false, ime := false, imeScheduled := false, locked := false,
                                              haltBug := false },
                          mem := { State.zeroed.mem with io := s.mem.io }, cart := s.cart }

/-- R571 to R574, R100, R118, R119: `reset` keeps the cartridge's contents; a load that fails changes nothing; one that succeeds
replaces only the cartridge, with the file's bytes as the ROM, the mapper and RAM size that the tables of R118 and R119 give
its header, the longest printable prefix of its 16 title bytes, and its banking reset. The file as its list of bytes and
the title without a terminator are the model's (log entries 20 and 16). -/
def Obligations.HostLoads : Prop :=
  ∀ (s : State) (file : List Byte),
    (∃ t, resetMachine s = t ∧ t.cart = { s.cart with romBank := 1, ramBank := 0, ramEnabled := false, mbcMode := false } ∧
      { t with cart := State.reset.cart } = State.reset) ∧
    loadRom none s = (false, s) ∧ (8388608 < file.length → loadRom (some file) s = (false, s)) ∧
    (file.length ≤ 8388608 → ∃ t, loadRom (some file) s = (true, t) ∧ t = { s with cart := t.cart } ∧
      t.cart.romSize = file.length ∧ (∀ k, t.cart.rom.read k = file.getD k 0) ∧ (∀ k, t.cart.ram.read k = 0) ∧
      (let k := (file.getD 0x147 0).toNat
       (k ∈ [1, 2, 3] → t.cart.mapper = .mbc1) ∧ (k ∈ [15, 16, 17, 18, 19] → t.cart.mapper = .mbc3) ∧
       (k ∈ [25, 26, 27, 28, 29, 30] → t.cart.mapper = .mbc5) ∧
       (k ∉ [1, 2, 3] → k ∉ [15, 16, 17, 18, 19] → k ∉ [25, 26, 27, 28, 29, 30] → t.cart.mapper = .none)) ∧
      t.cart.ramSize = [0, 2048, 8192, 32768, 131072, 65536].getD (file.getD 0x149 0).toNat 0 ∧
      t.cart.romBank = 1 ∧ t.cart.ramBank = 0 ∧ t.cart.ramEnabled = false ∧ t.cart.mbcMode = false ∧
      (let title := t.cart.title
       let shown := fun i => 0x20 ≤ (file.getD (0x134 + i) 0).toNat ∧ (file.getD (0x134 + i) 0).toNat ≤ 0x7E
       title.length ≤ 16 ∧ (∀ i, i < title.length → title.getD i 0 = file.getD (0x134 + i) 0 ∧ shown i) ∧
       (title.length < 16 → ¬shown title.length)))

end
end

