-- ==== Sys2Proof/Laws/Memory.lean ====
section
/-! SUPPORT. The laws of the sparse arrays: a read after a write, the keys a write leaves, and that every operation
keeps the canonical form. The read laws hold of every list; only canonicity needs `Cells.wf`. -/

namespace Sys2Proof.Machine

variable {w : Nat}

@[simp] theorem Cells.read_nil (k : Nat) : Cells.read ([] : Cells w) k = 0#w := rfl

theorem Cells.read_erase (m : Cells w) (k j : Nat) :
    Cells.read (Cells.erase m k) j = if j = k then 0#w else Cells.read m j := by
  induction m with
  | nil => simp [Cells.erase, Cells.read, Cells.unlisted]
  | cons c t ih =>
    obtain ⟨a, v⟩ := c
    simp only [Cells.erase] at ih ⊢
    by_cases h : a = k
    · subst h
      by_cases hj : j = a
      · subst hj; simp [ih]
      · simp [ih, hj, Cells.read, Ne.symm hj]
    · by_cases hj : j = k
      · subst hj; simp [h, Cells.read, ih]
      · by_cases ha : a = j
        · simp [ha, Cells.read, hj]
        · simp [h, ha, Cells.read, ih, hj]

theorem Cells.read_place (m : Cells w) (k j : Nat) (v : BitVec w) (hm : ∀ c ∈ m, c.1 ≠ k) :
    Cells.read (Cells.place k v m) j = if j = k then v else Cells.read m j := by
  induction m with
  | nil =>
    by_cases hj : j = k
    · subst hj; simp [Cells.place, Cells.read]
    · simp [Cells.place, Cells.read, hj, Ne.symm hj]
  | cons c t ih =>
    obtain ⟨a, x⟩ := c
    have ha : a ≠ k := hm (a, x) (by simp)
    have ih' := ih (fun c hc => hm c (by simp [hc]))
    by_cases hj : j = k
    · subst hj
      by_cases hlt : j < a <;> simp [Cells.place, Cells.read, hlt, ha, ih']
    · by_cases hlt : k < a <;> simp [Cells.place, Cells.read, hlt, hj, Ne.symm hj, ih']

theorem Cells.key_ne_of_mem_erase {m : Cells w} {k : Nat} {c : Nat × BitVec w} (h : c ∈ Cells.erase m k) :
    c.1 ≠ k := by
  simpa using (List.mem_filter.mp h).2

theorem Cells.mem_of_mem_erase {m : Cells w} {k : Nat} {c : Nat × BitVec w} (h : c ∈ Cells.erase m k) : c ∈ m :=
  (List.mem_filter.mp h).1

/-- The one read law: a write is seen at its key and nowhere else. -/
theorem Cells.read_write (m : Cells w) (k j : Nat) (v : BitVec w) :
    Cells.read (Cells.write m k v) j = if j = k then v else Cells.read m j := by
  unfold Cells.write
  split
  · next h => rw [Cells.read_erase, h]; rfl
  · rw [Cells.read_place _ _ _ _ (fun c hc => Cells.key_ne_of_mem_erase hc), Cells.read_erase]
    by_cases hj : j = k <;> simp [hj]

@[simp] theorem Cells.read_write_same (m : Cells w) (k : Nat) (v : BitVec w) :
    Cells.read (Cells.write m k v) k = v := by
  simp [Cells.read_write]

theorem Cells.read_write_other (m : Cells w) {k j : Nat} (v : BitVec w) (h : j ≠ k) :
    Cells.read (Cells.write m k v) j = Cells.read m j := by
  simp [Cells.read_write, h]

theorem Cells.mem_place {m : Cells w} {k : Nat} {v : BitVec w} {c : Nat × BitVec w}
    (h : c ∈ Cells.place k v m) : c = (k, v) ∨ c ∈ m := by
  induction m with
  | nil => simpa [Cells.place] using h
  | cons d t ih =>
    by_cases hlt : k < d.1
    · simpa [Cells.place, hlt] using h
    · simp only [Cells.place, hlt, if_false, List.mem_cons] at h ⊢
      rcases h with h | h
      · exact .inr (.inl h)
      · exact (ih h).imp id .inr

/-- What a write leaves is the written cell or an old one. -/
theorem Cells.mem_write {m : Cells w} {k : Nat} {v : BitVec w} {c : Nat × BitVec w}
    (h : c ∈ Cells.write m k v) : c = (k, v) ∨ c ∈ m := by
  unfold Cells.write at h
  split at h
  · exact .inr (Cells.mem_of_mem_erase h)
  · exact (Cells.mem_place h).imp id Cells.mem_of_mem_erase

/-- Every key stays below a bound that the written key meets. -/
theorem Cells.write_keys_lt {m : Cells w} {k n : Nat} {v : BitVec w} (hm : ∀ c ∈ m, c.1 < n) (hk : k < n) :
    ∀ c ∈ Cells.write m k v, c.1 < n := fun c hc =>
  (Cells.mem_write hc).elim (fun e => by subst e; exact hk) (hm c)

theorem Cells.wf_nil : Cells.wf ([] : Cells w) := by simp [Cells.wf]

theorem Cells.wf_erase {m : Cells w} (h : Cells.wf m) (k : Nat) : Cells.wf (Cells.erase m k) :=
  ⟨h.1.filter _, fun c hc => h.2 c (Cells.mem_of_mem_erase hc)⟩

theorem Cells.pairwise_place {m : Cells w} {k : Nat} {v : BitVec w} (h : m.Pairwise (fun x y => x.1 < y.1))
    (hk : ∀ c ∈ m, c.1 ≠ k) : (Cells.place k v m).Pairwise (fun x y => x.1 < y.1) := by
  induction m with
  | nil => simp [Cells.place]
  | cons d t ih =>
    obtain ⟨hd, ht⟩ := List.pairwise_cons.mp h
    by_cases hlt : k < d.1
    · simp only [Cells.place, hlt, if_true, List.pairwise_cons, List.mem_cons]
      exact ⟨fun c hc => hc.elim (fun e => e ▸ hlt) (fun hc => lt_trans hlt (hd c hc)), hd, ht⟩
    · simp only [Cells.place, hlt, if_false, List.pairwise_cons]
      have hne : d.1 ≠ k := hk d (by simp)
      refine ⟨fun c hc => ?_, ih ht (fun c hc => hk c (by simp [hc]))⟩
      rcases Cells.mem_place hc with e | hc
      · subst e; show d.1 < k; omega
      · exact hd c hc

/-- A write keeps the canonical form. -/
theorem Cells.wf_write {m : Cells w} (h : Cells.wf m) (k : Nat) (v : BitVec w) : Cells.wf (Cells.write m k v) := by
  unfold Cells.write
  split
  · exact Cells.wf_erase h k
  · next hv =>
    refine ⟨Cells.pairwise_place (Cells.wf_erase h k).1 (fun c hc => Cells.key_ne_of_mem_erase hc), fun c hc => ?_⟩
    rcases Cells.mem_place hc with e | hc
    · subst e; exact hv
    · exact (Cells.wf_erase h k).2 c hc

/-- A range of writes is seen inside the range and nowhere else. -/
theorem Cells.read_writeRange (m : Cells w) (base : Nat) (f : Nat → BitVec w) (n j : Nat) :
    Cells.read (Cells.writeRange m base f n) j =
      if base ≤ j ∧ j < base + n then f (j - base) else Cells.read m j := by
  induction n with
  | zero =>
    have : ¬(base ≤ j ∧ j < base + 0) := by omega
    simp only [Cells.writeRange, this, if_false]
  | succ n ih =>
    rw [Cells.writeRange, Cells.read_write, ih]
    by_cases h : j = base + n
    · subst h; simp
    · by_cases h2 : base ≤ j ∧ j < base + n
      · have : base ≤ j ∧ j < base + (n + 1) := by omega
        simp [h, h2, this]
      · have : ¬(base ≤ j ∧ j < base + (n + 1)) := by omega
        simp [h, h2, this]

theorem Cells.wf_writeRange {m : Cells w} (h : Cells.wf m) (base : Nat) (f : Nat → BitVec w) (n : Nat) :
    Cells.wf (Cells.writeRange m base f n) := by
  induction n with
  | zero => exact h
  | succ n ih => exact Cells.wf_write ih _ _

theorem Cells.writeRange_keys_lt {m : Cells w} {base n size : Nat} {f : Nat → BitVec w} (hm : ∀ c ∈ m, c.1 < size)
    (hb : base + n ≤ size) : ∀ c ∈ Cells.writeRange m base f n, c.1 < size := by
  induction n with
  | zero => exact hm
  | succ n ih => exact Cells.write_keys_lt (ih (by omega)) (by omega)

/-- The cells of a list read as the list. -/
theorem Cells.read_ofList (base : Nat) (l : List (BitVec w)) (j : Nat) :
    Cells.read (Cells.ofList base l) j = if base ≤ j then l.getD (j - base) 0#w else 0#w := by
  induction l generalizing base with
  | nil => simp [Cells.ofList]
  | cons v t ih =>
    have key : Cells.read (Cells.ofList (base + 1) t) j = if base + 1 ≤ j then t.getD (j - (base + 1)) 0#w else 0#w :=
      ih (base + 1)
    by_cases hj : j = base
    · subst hj
      have h1 : ¬ (j + 1 ≤ j) := by omega
      by_cases hv : v = 0#w <;> simp [Cells.ofList, Cells.unlisted, Cells.read, hv, key]
    · by_cases hle : base ≤ j
      · obtain ⟨d, rfl⟩ : ∃ d, j = base + 1 + d := ⟨j - (base + 1), by omega⟩
        have h1 : base + 1 + d - base = d + 1 := by omega
        have h2 : base ≠ base + 1 + d := by omega
        have h3 : base ≤ base + 1 + d := by omega
        by_cases hv : v = 0#w <;> simp [Cells.ofList, Cells.unlisted, Cells.read, hv, key, h1, h2, h3]
      · have h1 : ¬ (base + 1 ≤ j) := by omega
        have h2 : base ≠ j := by omega
        by_cases hv : v = 0#w <;> simp [Cells.ofList, Cells.unlisted, Cells.read, hv, key, hle, h1, h2]

theorem Cells.ofList_keys (base : Nat) (l : List (BitVec w)) :
    ∀ c ∈ Cells.ofList base l, base ≤ c.1 ∧ c.1 < base + l.length ∧ c.2 ≠ 0#w := by
  induction l generalizing base with
  | nil => simp [Cells.ofList]
  | cons v t ih =>
    intro c hc
    have step : c ∈ Cells.ofList (base + 1) t → base ≤ c.1 ∧ c.1 < base + (v :: t).length ∧ c.2 ≠ 0#w := fun h => by
      obtain ⟨h1, h2, h3⟩ := ih (base + 1) c h
      simp only [List.length_cons]
      exact ⟨by omega, by omega, h3⟩
    by_cases hv : v = 0#w
    · simp only [Cells.ofList, Cells.unlisted, hv, if_true] at hc
      subst hv; exact step hc
    · simp only [Cells.ofList, Cells.unlisted, hv, if_false, List.mem_cons] at hc
      rcases hc with rfl | hc
      · simp [hv]
      · exact step hc

theorem Cells.wf_ofList (base : Nat) (l : List (BitVec w)) : Cells.wf (Cells.ofList base l) := by
  refine ⟨?_, fun c hc => (Cells.ofList_keys base l c hc).2.2⟩
  induction l generalizing base with
  | nil => simp [Cells.ofList]
  | cons v t ih =>
    by_cases hv : v = 0#w
    · simpa [Cells.ofList, Cells.unlisted, hv] using ih (base + 1)
    · simp only [Cells.ofList, Cells.unlisted, hv, if_false, List.pairwise_cons]
      exact ⟨fun c hc => by have := (Cells.ofList_keys (base + 1) t c hc).1; show base < c.1; omega, ih (base + 1)⟩

/-- Two canonical arrays that read alike are the same list. -/
theorem Cells.ext_of_wf {m n : Cells w} (hm : Cells.wf m) (hn : Cells.wf n) (h : ∀ k, Cells.read m k = Cells.read n k) :
    m = n := by
  have below : ∀ (t : Cells w) (k : Nat), (∀ c ∈ t, k < c.1) → Cells.read t k = 0#w := by
    intro t k ht
    induction t with
    | nil => rfl
    | cons c t ih =>
      have h1 : c.1 ≠ k := by have := ht c (by simp); omega
      simp only [Cells.read, h1, if_false]
      exact ih (fun d hd => ht d (by simp [hd]))
  have tailwf : ∀ {c : Nat × BitVec w} {t : Cells w}, Cells.wf (c :: t) → Cells.wf t ∧ (∀ d ∈ t, c.1 < d.1) ∧ c.2 ≠ 0#w :=
    fun hw => ⟨⟨(List.pairwise_cons.mp hw.1).2, fun d hd => hw.2 d (by simp [hd])⟩,
      (List.pairwise_cons.mp hw.1).1, hw.2 _ (by simp)⟩
  induction m generalizing n with
  | nil =>
    cases n with
    | nil => rfl
    | cons d t =>
      have := h d.1
      simp only [Cells.read, if_true] at this
      exact absurd this.symm (tailwf hn).2.2
  | cons c t ih =>
    obtain ⟨ht, hct, hc0⟩ := tailwf hm
    cases n with
    | nil =>
      have := h c.1
      simp only [Cells.read, if_true] at this
      exact absurd this hc0
    | cons d u =>
      obtain ⟨hu, hdu, hd0⟩ := tailwf hn
      have hk : c.1 = d.1 := by
        rcases Nat.lt_trichotomy c.1 d.1 with hlt | he | hlt
        · have := h c.1
          rw [below (d :: u) c.1 (by intro x hx; rcases List.mem_cons.mp hx with rfl | hx; exact hlt; exact lt_trans hlt (hdu x hx))] at this
          simp only [Cells.read, if_true] at this
          exact absurd this hc0
        · exact he
        · have := h d.1
          rw [below (c :: t) d.1 (by intro x hx; rcases List.mem_cons.mp hx with rfl | hx; exact hlt; exact lt_trans hlt (hct x hx))] at this
          simp only [Cells.read, if_true] at this
          exact absurd this.symm hd0
      have hv : c.2 = d.2 := by
        have := h c.1
        simpa [Cells.read, hk] using this
      have hcd : c = d := Prod.ext hk hv
      subst hcd
      congr 1
      refine ih ht hu (fun k => ?_)
      by_cases hkc : c.1 = k
      · rw [← hkc, below t c.1 hct, below u c.1 hdu]
      · have := h k
        simpa [Cells.read, hkc] using this

end Sys2Proof.Machine
end

