-- ==== Sys2Proof/Laws/State.lean ====
section
/-! SUPPORT. One lemma per field per update of the state, true by `rfl`; the IO bytes after an update; the pairs and
the flags as views. No proof needs to unfold a record update. -/

namespace Sys2Proof.Machine

/-! ### `setCpu` -/

@[simp] theorem State.setCpu_cpu (s : State) (c : Cpu) : (s.setCpu c).cpu = c := rfl
@[simp] theorem State.setCpu_mem (s : State) (c : Cpu) : (s.setCpu c).mem = s.mem := rfl
@[simp] theorem State.setCpu_cart (s : State) (c : Cpu) : (s.setCpu c).cart = s.cart := rfl
@[simp] theorem State.setCpu_ppu (s : State) (c : Cpu) : (s.setCpu c).ppu = s.ppu := rfl
@[simp] theorem State.setCpu_apu (s : State) (c : Cpu) : (s.setCpu c).apu = s.apu := rfl
@[simp] theorem State.setCpu_timer (s : State) (c : Cpu) : (s.setCpu c).timer = s.timer := rfl
@[simp] theorem State.setCpu_joypad (s : State) (c : Cpu) : (s.setCpu c).joypad = s.joypad := rfl
@[simp] theorem State.setCpu_cycles (s : State) (c : Cpu) : (s.setCpu c).cycles = s.cycles := rfl

/-! ### `withCycles` -/

@[simp] theorem State.withCycles_cpu (s : State) (n : Nat) : (s.withCycles n).cpu = s.cpu := rfl
@[simp] theorem State.withCycles_mem (s : State) (n : Nat) : (s.withCycles n).mem = s.mem := rfl
@[simp] theorem State.withCycles_cart (s : State) (n : Nat) : (s.withCycles n).cart = s.cart := rfl
@[simp] theorem State.withCycles_ppu (s : State) (n : Nat) : (s.withCycles n).ppu = s.ppu := rfl
@[simp] theorem State.withCycles_apu (s : State) (n : Nat) : (s.withCycles n).apu = s.apu := rfl
@[simp] theorem State.withCycles_timer (s : State) (n : Nat) : (s.withCycles n).timer = s.timer := rfl
@[simp] theorem State.withCycles_joypad (s : State) (n : Nat) : (s.withCycles n).joypad = s.joypad := rfl
@[simp] theorem State.withCycles_cycles (s : State) (n : Nat) : (s.withCycles n).cycles = n := rfl

/-! ### `setIo` -/

@[simp] theorem State.setIo_cpu (s : State) (off : Nat) (v : Byte) : (s.setIo off v).cpu = s.cpu := rfl
@[simp] theorem State.setIo_mem_vram (s : State) (off : Nat) (v : Byte) : (s.setIo off v).mem.vram = s.mem.vram := rfl
@[simp] theorem State.setIo_mem_wram (s : State) (off : Nat) (v : Byte) : (s.setIo off v).mem.wram = s.mem.wram := rfl
@[simp] theorem State.setIo_mem_oam (s : State) (off : Nat) (v : Byte) : (s.setIo off v).mem.oam = s.mem.oam := rfl
@[simp] theorem State.setIo_mem_io (s : State) (off : Nat) (v : Byte) : (s.setIo off v).mem.io = s.mem.io.write off v := rfl
@[simp] theorem State.setIo_mem_hram (s : State) (off : Nat) (v : Byte) : (s.setIo off v).mem.hram = s.mem.hram := rfl
@[simp] theorem State.setIo_mem_ie (s : State) (off : Nat) (v : Byte) : (s.setIo off v).mem.ie = s.mem.ie := rfl
@[simp] theorem State.setIo_cart (s : State) (off : Nat) (v : Byte) : (s.setIo off v).cart = s.cart := rfl
@[simp] theorem State.setIo_ppu (s : State) (off : Nat) (v : Byte) : (s.setIo off v).ppu = s.ppu := rfl
@[simp] theorem State.setIo_apu (s : State) (off : Nat) (v : Byte) : (s.setIo off v).apu = s.apu := rfl
@[simp] theorem State.setIo_timer (s : State) (off : Nat) (v : Byte) : (s.setIo off v).timer = s.timer := rfl
@[simp] theorem State.setIo_joypad (s : State) (off : Nat) (v : Byte) : (s.setIo off v).joypad = s.joypad := rfl
@[simp] theorem State.setIo_cycles (s : State) (off : Nat) (v : Byte) : (s.setIo off v).cycles = s.cycles := rfl

/-! ### `setVram` -/

@[simp] theorem State.setVram_cpu (s : State) (i : Nat) (v : Byte) : (s.setVram i v).cpu = s.cpu := rfl
@[simp] theorem State.setVram_mem_vram (s : State) (i : Nat) (v : Byte) : (s.setVram i v).mem.vram = s.mem.vram.write i v := rfl
@[simp] theorem State.setVram_mem_wram (s : State) (i : Nat) (v : Byte) : (s.setVram i v).mem.wram = s.mem.wram := rfl
@[simp] theorem State.setVram_mem_oam (s : State) (i : Nat) (v : Byte) : (s.setVram i v).mem.oam = s.mem.oam := rfl
@[simp] theorem State.setVram_mem_io (s : State) (i : Nat) (v : Byte) : (s.setVram i v).mem.io = s.mem.io := rfl
@[simp] theorem State.setVram_mem_hram (s : State) (i : Nat) (v : Byte) : (s.setVram i v).mem.hram = s.mem.hram := rfl
@[simp] theorem State.setVram_mem_ie (s : State) (i : Nat) (v : Byte) : (s.setVram i v).mem.ie = s.mem.ie := rfl
@[simp] theorem State.setVram_cart (s : State) (i : Nat) (v : Byte) : (s.setVram i v).cart = s.cart := rfl
@[simp] theorem State.setVram_ppu (s : State) (i : Nat) (v : Byte) : (s.setVram i v).ppu = s.ppu := rfl
@[simp] theorem State.setVram_apu (s : State) (i : Nat) (v : Byte) : (s.setVram i v).apu = s.apu := rfl
@[simp] theorem State.setVram_timer (s : State) (i : Nat) (v : Byte) : (s.setVram i v).timer = s.timer := rfl
@[simp] theorem State.setVram_joypad (s : State) (i : Nat) (v : Byte) : (s.setVram i v).joypad = s.joypad := rfl
@[simp] theorem State.setVram_cycles (s : State) (i : Nat) (v : Byte) : (s.setVram i v).cycles = s.cycles := rfl

/-! ### `setWram` -/

@[simp] theorem State.setWram_cpu (s : State) (i : Nat) (v : Byte) : (s.setWram i v).cpu = s.cpu := rfl
@[simp] theorem State.setWram_mem_vram (s : State) (i : Nat) (v : Byte) : (s.setWram i v).mem.vram = s.mem.vram := rfl
@[simp] theorem State.setWram_mem_wram (s : State) (i : Nat) (v : Byte) : (s.setWram i v).mem.wram = s.mem.wram.write i v := rfl
@[simp] theorem State.setWram_mem_oam (s : State) (i : Nat) (v : Byte) : (s.setWram i v).mem.oam = s.mem.oam := rfl
@[simp] theorem State.setWram_mem_io (s : State) (i : Nat) (v : Byte) : (s.setWram i v).mem.io = s.mem.io := rfl
@[simp] theorem State.setWram_mem_hram (s : State) (i : Nat) (v : Byte) : (s.setWram i v).mem.hram = s.mem.hram := rfl
@[simp] theorem State.setWram_mem_ie (s : State) (i : Nat) (v : Byte) : (s.setWram i v).mem.ie = s.mem.ie := rfl
@[simp] theorem State.setWram_cart (s : State) (i : Nat) (v : Byte) : (s.setWram i v).cart = s.cart := rfl
@[simp] theorem State.setWram_ppu (s : State) (i : Nat) (v : Byte) : (s.setWram i v).ppu = s.ppu := rfl
@[simp] theorem State.setWram_apu (s : State) (i : Nat) (v : Byte) : (s.setWram i v).apu = s.apu := rfl
@[simp] theorem State.setWram_timer (s : State) (i : Nat) (v : Byte) : (s.setWram i v).timer = s.timer := rfl
@[simp] theorem State.setWram_joypad (s : State) (i : Nat) (v : Byte) : (s.setWram i v).joypad = s.joypad := rfl
@[simp] theorem State.setWram_cycles (s : State) (i : Nat) (v : Byte) : (s.setWram i v).cycles = s.cycles := rfl

/-! ### `setOam` -/

@[simp] theorem State.setOam_cpu (s : State) (i : Nat) (v : Byte) : (s.setOam i v).cpu = s.cpu := rfl
@[simp] theorem State.setOam_mem_vram (s : State) (i : Nat) (v : Byte) : (s.setOam i v).mem.vram = s.mem.vram := rfl
@[simp] theorem State.setOam_mem_wram (s : State) (i : Nat) (v : Byte) : (s.setOam i v).mem.wram = s.mem.wram := rfl
@[simp] theorem State.setOam_mem_oam (s : State) (i : Nat) (v : Byte) : (s.setOam i v).mem.oam = s.mem.oam.write i v := rfl
@[simp] theorem State.setOam_mem_io (s : State) (i : Nat) (v : Byte) : (s.setOam i v).mem.io = s.mem.io := rfl
@[simp] theorem State.setOam_mem_hram (s : State) (i : Nat) (v : Byte) : (s.setOam i v).mem.hram = s.mem.hram := rfl
@[simp] theorem State.setOam_mem_ie (s : State) (i : Nat) (v : Byte) : (s.setOam i v).mem.ie = s.mem.ie := rfl
@[simp] theorem State.setOam_cart (s : State) (i : Nat) (v : Byte) : (s.setOam i v).cart = s.cart := rfl
@[simp] theorem State.setOam_ppu (s : State) (i : Nat) (v : Byte) : (s.setOam i v).ppu = s.ppu := rfl
@[simp] theorem State.setOam_apu (s : State) (i : Nat) (v : Byte) : (s.setOam i v).apu = s.apu := rfl
@[simp] theorem State.setOam_timer (s : State) (i : Nat) (v : Byte) : (s.setOam i v).timer = s.timer := rfl
@[simp] theorem State.setOam_joypad (s : State) (i : Nat) (v : Byte) : (s.setOam i v).joypad = s.joypad := rfl
@[simp] theorem State.setOam_cycles (s : State) (i : Nat) (v : Byte) : (s.setOam i v).cycles = s.cycles := rfl

/-! ### `setHram` -/

@[simp] theorem State.setHram_cpu (s : State) (i : Nat) (v : Byte) : (s.setHram i v).cpu = s.cpu := rfl
@[simp] theorem State.setHram_mem_vram (s : State) (i : Nat) (v : Byte) : (s.setHram i v).mem.vram = s.mem.vram := rfl
@[simp] theorem State.setHram_mem_wram (s : State) (i : Nat) (v : Byte) : (s.setHram i v).mem.wram = s.mem.wram := rfl
@[simp] theorem State.setHram_mem_oam (s : State) (i : Nat) (v : Byte) : (s.setHram i v).mem.oam = s.mem.oam := rfl
@[simp] theorem State.setHram_mem_io (s : State) (i : Nat) (v : Byte) : (s.setHram i v).mem.io = s.mem.io := rfl
@[simp] theorem State.setHram_mem_hram (s : State) (i : Nat) (v : Byte) : (s.setHram i v).mem.hram = s.mem.hram.write i v := rfl
@[simp] theorem State.setHram_mem_ie (s : State) (i : Nat) (v : Byte) : (s.setHram i v).mem.ie = s.mem.ie := rfl
@[simp] theorem State.setHram_cart (s : State) (i : Nat) (v : Byte) : (s.setHram i v).cart = s.cart := rfl
@[simp] theorem State.setHram_ppu (s : State) (i : Nat) (v : Byte) : (s.setHram i v).ppu = s.ppu := rfl
@[simp] theorem State.setHram_apu (s : State) (i : Nat) (v : Byte) : (s.setHram i v).apu = s.apu := rfl
@[simp] theorem State.setHram_timer (s : State) (i : Nat) (v : Byte) : (s.setHram i v).timer = s.timer := rfl
@[simp] theorem State.setHram_joypad (s : State) (i : Nat) (v : Byte) : (s.setHram i v).joypad = s.joypad := rfl
@[simp] theorem State.setHram_cycles (s : State) (i : Nat) (v : Byte) : (s.setHram i v).cycles = s.cycles := rfl

/-! ### `setIe` -/

@[simp] theorem State.setIe_cpu (s : State) (v : Byte) : (s.setIe v).cpu = s.cpu := rfl
@[simp] theorem State.setIe_mem_vram (s : State) (v : Byte) : (s.setIe v).mem.vram = s.mem.vram := rfl
@[simp] theorem State.setIe_mem_wram (s : State) (v : Byte) : (s.setIe v).mem.wram = s.mem.wram := rfl
@[simp] theorem State.setIe_mem_oam (s : State) (v : Byte) : (s.setIe v).mem.oam = s.mem.oam := rfl
@[simp] theorem State.setIe_mem_io (s : State) (v : Byte) : (s.setIe v).mem.io = s.mem.io := rfl
@[simp] theorem State.setIe_mem_hram (s : State) (v : Byte) : (s.setIe v).mem.hram = s.mem.hram := rfl
@[simp] theorem State.setIe_mem_ie (s : State) (v : Byte) : (s.setIe v).mem.ie = v := rfl
@[simp] theorem State.setIe_cart (s : State) (v : Byte) : (s.setIe v).cart = s.cart := rfl
@[simp] theorem State.setIe_ppu (s : State) (v : Byte) : (s.setIe v).ppu = s.ppu := rfl
@[simp] theorem State.setIe_apu (s : State) (v : Byte) : (s.setIe v).apu = s.apu := rfl
@[simp] theorem State.setIe_timer (s : State) (v : Byte) : (s.setIe v).timer = s.timer := rfl
@[simp] theorem State.setIe_joypad (s : State) (v : Byte) : (s.setIe v).joypad = s.joypad := rfl
@[simp] theorem State.setIe_cycles (s : State) (v : Byte) : (s.setIe v).cycles = s.cycles := rfl

/-! ### `setScanlineCycles` -/

@[simp] theorem State.setScanlineCycles_cpu (s : State) (n : Nat) : (s.setScanlineCycles n).cpu = s.cpu := rfl
@[simp] theorem State.setScanlineCycles_mem (s : State) (n : Nat) : (s.setScanlineCycles n).mem = s.mem := rfl
@[simp] theorem State.setScanlineCycles_cart (s : State) (n : Nat) : (s.setScanlineCycles n).cart = s.cart := rfl
@[simp] theorem State.setScanlineCycles_ppu_framebuffer (s : State) (n : Nat) : (s.setScanlineCycles n).ppu.framebuffer = s.ppu.framebuffer := rfl
@[simp] theorem State.setScanlineCycles_ppu_frameReady (s : State) (n : Nat) : (s.setScanlineCycles n).ppu.frameReady = s.ppu.frameReady := rfl
@[simp] theorem State.setScanlineCycles_ppu_scanlineCycles (s : State) (n : Nat) : (s.setScanlineCycles n).ppu.scanlineCycles = n := rfl
@[simp] theorem State.setScanlineCycles_apu (s : State) (n : Nat) : (s.setScanlineCycles n).apu = s.apu := rfl
@[simp] theorem State.setScanlineCycles_timer (s : State) (n : Nat) : (s.setScanlineCycles n).timer = s.timer := rfl
@[simp] theorem State.setScanlineCycles_joypad (s : State) (n : Nat) : (s.setScanlineCycles n).joypad = s.joypad := rfl
@[simp] theorem State.setScanlineCycles_cycles (s : State) (n : Nat) : (s.setScanlineCycles n).cycles = s.cycles := rfl

/-! ### IO bytes -/

@[simp] theorem State.io_setIo (s : State) (off k : Nat) (v : Byte) :
    (s.setIo off v).io k = if k = off then v else s.io k := Cells.read_write _ _ _ _

@[simp] theorem State.io_setCpu (s : State) (c : Cpu) (k : Nat) : (s.setCpu c).io k = s.io k := rfl
@[simp] theorem State.io_withCycles (s : State) (n : Nat) (k : Nat) : (s.withCycles n).io k = s.io k := rfl
@[simp] theorem State.io_setVram (s : State) (i : Nat) (v : Byte) (k : Nat) : (s.setVram i v).io k = s.io k := rfl
@[simp] theorem State.io_setWram (s : State) (i : Nat) (v : Byte) (k : Nat) : (s.setWram i v).io k = s.io k := rfl
@[simp] theorem State.io_setOam (s : State) (i : Nat) (v : Byte) (k : Nat) : (s.setOam i v).io k = s.io k := rfl
@[simp] theorem State.io_setHram (s : State) (i : Nat) (v : Byte) (k : Nat) : (s.setHram i v).io k = s.io k := rfl
@[simp] theorem State.io_setIe (s : State) (v : Byte) (k : Nat) : (s.setIe v).io k = s.io k := rfl
@[simp] theorem State.io_setScanlineCycles (s : State) (n : Nat) (k : Nat) : (s.setScanlineCycles n).io k = s.io k := rfl

/-! ### Updates of one register, as updates of the CPU -/

@[simp] theorem State.setA_eq (s : State) (v : Byte) : s.setA v = s.setCpu { s.cpu with a := v } := rfl
@[simp] theorem State.setSp_eq (s : State) (v : Word) : s.setSp v = s.setCpu { s.cpu with sp := v } := rfl
@[simp] theorem State.setPc_eq (s : State) (v : Word) : s.setPc v = s.setCpu { s.cpu with pc := v } := rfl
@[simp] theorem State.setBc_eq (s : State) (v : Word) : s.setBc v = s.setCpu { s.cpu with b := hiByte v, c := loByte v } := rfl
@[simp] theorem State.setDe_eq (s : State) (v : Word) : s.setDe v = s.setCpu { s.cpu with d := hiByte v, e := loByte v } := rfl
@[simp] theorem State.setHl_eq (s : State) (v : Word) : s.setHl v = s.setCpu { s.cpu with h := hiByte v, l := loByte v } := rfl
@[simp] theorem State.setAf_eq (s : State) (v : Word) :
    s.setAf v = s.setCpu { s.cpu with a := hiByte v, f := loByte v &&& 0xF0#8 } := rfl
@[simp] theorem State.setFlags_eq (s : State) (z n h c : Bool) :
    s.setFlags z n h c = s.setCpu { s.cpu with f := packFlags z n h c } := rfl

@[simp] theorem State.setCpu_setCpu (s : State) (c d : Cpu) : (s.setCpu c).setCpu d = s.setCpu d := rfl
@[simp] theorem State.setCpu_self (s : State) : s.setCpu s.cpu = s := rfl
@[simp] theorem State.withCycles_setCpu (s : State) (c : Cpu) (n : Nat) :
    (s.withCycles n).setCpu c = (s.setCpu c).withCycles n := rfl
@[simp] theorem State.withCycles_withCycles (s : State) (m n : Nat) : (s.withCycles m).withCycles n = s.withCycles n := rfl

/-! ### Bytes of a word -/

theorem joinBytes_toNat (h l : Byte) : (joinBytes h l).toNat = h.toNat * 256 + l.toNat := by
  have hl := l.isLt
  show (h ++ l : BitVec (8 + 8)).toNat = _
  rw [BitVec.toNat_append, ← Nat.shiftLeft_add_eq_or_of_lt hl, Nat.shiftLeft_eq]

theorem hiByte_toNat (v : Word) : (hiByte v).toNat = v.toNat / 256 := by
  have := v.isLt
  simp [hiByte, BitVec.extractLsb'_toNat, Nat.shiftRight_eq_div_pow]
  omega

theorem loByte_toNat (v : Word) : (loByte v).toNat = v.toNat % 256 := by
  simp [loByte, BitVec.extractLsb'_toNat]

@[simp] theorem hiByte_joinBytes (h l : Byte) : hiByte (joinBytes h l) = h := by
  apply BitVec.eq_of_toNat_eq
  have := l.isLt
  rw [hiByte_toNat, joinBytes_toNat]; omega

@[simp] theorem loByte_joinBytes (h l : Byte) : loByte (joinBytes h l) = l := by
  apply BitVec.eq_of_toNat_eq
  have := l.isLt
  rw [loByte_toNat, joinBytes_toNat]; omega

@[simp] theorem joinBytes_hi_lo (v : Word) : joinBytes (hiByte v) (loByte v) = v := by
  apply BitVec.eq_of_toNat_eq
  rw [joinBytes_toNat, hiByte_toNat, loByte_toNat]; omega

theorem joinBytes_inj {h l h' l' : Byte} : joinBytes h l = joinBytes h' l' ↔ h = h' ∧ l = l' := by
  constructor
  · intro e
    exact ⟨by simpa using congrArg hiByte e, by simpa using congrArg loByte e⟩
  · rintro ⟨rfl, rfl⟩; rfl

/-! ### The flags (R31) -/

@[simp] theorem packFlags_z (z n h c : Bool) : bitOf (packFlags z n h c) 7 = z := by
  revert z n h c; decide
@[simp] theorem packFlags_n (z n h c : Bool) : bitOf (packFlags z n h c) 6 = n := by
  revert z n h c; decide
@[simp] theorem packFlags_h (z n h c : Bool) : bitOf (packFlags z n h c) 5 = h := by
  revert z n h c; decide
@[simp] theorem packFlags_c (z n h c : Bool) : bitOf (packFlags z n h c) 4 = c := by
  revert z n h c; decide

/-! The flags of a state whose F was packed. -/

theorem State.fz_of_packFlags {s : State} {z n h c : Bool} (e : s.cpu.f = packFlags z n h c) : s.fz = z := by
  simp [State.fz, e]
theorem State.fn_of_packFlags {s : State} {z n h c : Bool} (e : s.cpu.f = packFlags z n h c) : s.fn = n := by
  simp [State.fn, e]
theorem State.fh_of_packFlags {s : State} {z n h c : Bool} (e : s.cpu.f = packFlags z n h c) : s.fh = h := by
  simp [State.fh, e]
theorem State.fc_of_packFlags {s : State} {z n h c : Bool} (e : s.cpu.f = packFlags z n h c) : s.fc = c := by
  simp [State.fc, e]

/-- R31: every write of the flags leaves the low nibble of F zero. -/
@[simp] theorem packFlags_low (z n h c : Bool) : packFlags z n h c &&& 0x0F#8 = 0#8 := by
  revert z n h c; decide

theorem maskF_low (v : Byte) : (v &&& 0xF0#8) &&& 0x0F#8 = 0#8 := by
  rw [BitVec.and_assoc]; simp

end Sys2Proof.Machine
end

