-- ==== Sys2Proof/Laws/Bus.lean ====
section
/-! SUPPORT. What a bus access can do: a read depends on neither the CPU registers nor the cycle count, a write changes
neither, nor the PPU and the timer, nor the ROM image; which reads a write can change; what the DMA copy leaves; the
stack operations as updates. -/

namespace Sys2Proof.Machine

/-! ## The rows of R81 -/

/-- The rows of R81, each with its range of addresses. -/
theorem region_rows (a : Word) :
    (a.toNat < 0x8000 ∧ region a = .rom a.toNat) ∨
    (0x8000 ≤ a.toNat ∧ a.toNat < 0xA000 ∧ region a = .vram (a.toNat - 0x8000)) ∨
    (0xA000 ≤ a.toNat ∧ a.toNat < 0xC000 ∧ region a = .cartRam (a.toNat - 0xA000)) ∨
    (0xC000 ≤ a.toNat ∧ a.toNat < 0xE000 ∧ region a = .wram (a.toNat - 0xC000)) ∨
    (0xE000 ≤ a.toNat ∧ a.toNat < 0xFE00 ∧ region a = .wram (a.toNat - 0xE000)) ∨
    (0xFE00 ≤ a.toNat ∧ a.toNat < 0xFEA0 ∧ region a = .oam (a.toNat - 0xFE00)) ∨
    (0xFEA0 ≤ a.toNat ∧ a.toNat < 0xFF00 ∧ region a = .unusable) ∨
    (a.toNat = 0xFF00 ∧ region a = .joyp) ∨
    (0xFF10 ≤ a.toNat ∧ a.toNat < 0xFF40 ∧ region a = .apu (a.toNat - 0xFF00)) ∨
    (0xFF00 < a.toNat ∧ a.toNat < 0xFF80 ∧ ¬(0xFF10 ≤ a.toNat ∧ a.toNat < 0xFF40) ∧
      region a = .io (a.toNat - 0xFF00)) ∨
    (0xFF80 ≤ a.toNat ∧ a.toNat < 0xFFFF ∧ region a = .hram (a.toNat - 0xFF80)) ∨
    (a.toNat = 0xFFFF ∧ region a = .ie) := by
  have ha := a.isLt
  unfold region
  dsimp only
  generalize a.toNat = n at *
  by_cases h1 : n < 0x8000
  · rw [if_pos h1]; exact .inl ⟨h1, rfl⟩
  rw [if_neg h1]
  by_cases h2 : n < 0xA000
  · rw [if_pos h2]; exact .inr (.inl ⟨by omega, h2, rfl⟩)
  rw [if_neg h2]
  by_cases h3 : n < 0xC000
  · rw [if_pos h3]; exact .inr (.inr (.inl ⟨by omega, h3, rfl⟩))
  rw [if_neg h3]
  by_cases h4 : n < 0xE000
  · rw [if_pos h4]; exact .inr (.inr (.inr (.inl ⟨by omega, h4, rfl⟩)))
  rw [if_neg h4]
  by_cases h5 : n < 0xFE00
  · rw [if_pos h5]; exact .inr (.inr (.inr (.inr (.inl ⟨by omega, h5, rfl⟩))))
  rw [if_neg h5]
  by_cases h6 : n < 0xFEA0
  · rw [if_pos h6]; exact .inr (.inr (.inr (.inr (.inr (.inl ⟨by omega, h6, rfl⟩)))))
  rw [if_neg h6]
  by_cases h7 : n < 0xFF00
  · rw [if_pos h7]; exact .inr (.inr (.inr (.inr (.inr (.inr (.inl ⟨by omega, h7, rfl⟩))))))
  rw [if_neg h7]
  by_cases h8 : n = 0xFF00
  · rw [if_pos h8]; exact .inr (.inr (.inr (.inr (.inr (.inr (.inr (.inl ⟨h8, rfl⟩)))))))
  rw [if_neg h8]
  by_cases h9 : 0xFF10 ≤ n ∧ n < 0xFF40
  · rw [if_pos h9]; exact .inr (.inr (.inr (.inr (.inr (.inr (.inr (.inr (.inl ⟨h9.1, h9.2, rfl⟩))))))))
  rw [if_neg h9]
  by_cases h10 : n < 0xFF80
  · rw [if_pos h10]
    exact .inr (.inr (.inr (.inr (.inr (.inr (.inr (.inr (.inr (.inl ⟨by omega, h10, h9, rfl⟩)))))))))
  rw [if_neg h10]
  by_cases h11 : n < 0xFFFF
  · rw [if_pos h11]
    exact .inr (.inr (.inr (.inr (.inr (.inr (.inr (.inr (.inr (.inr (.inl ⟨by omega, h11, rfl⟩))))))))))
  rw [if_neg h11]
  exact .inr (.inr (.inr (.inr (.inr (.inr (.inr (.inr (.inr (.inr (.inr ⟨by omega, rfl⟩))))))))))

/-! The index that a region carries is the address less the row's base. -/

theorem region_rom {a : Word} {k : Nat} (h : region a = .rom k) : a.toNat = k ∧ k < 0x8000 := by
  rcases region_rows a with r | r | r | r | r | r | r | r | r | r | r | r <;>
    simp only [h, Region.rom.injEq, reduceCtorEq, and_false] at r
  omega

theorem region_vram {a : Word} {i : Nat} (h : region a = .vram i) : a.toNat = 0x8000 + i ∧ i < 0x2000 := by
  rcases region_rows a with r | r | r | r | r | r | r | r | r | r | r | r <;>
    simp only [h, Region.vram.injEq, reduceCtorEq, and_false] at r
  omega

theorem region_cartRam {a : Word} {i : Nat} (h : region a = .cartRam i) : a.toNat = 0xA000 + i ∧ i < 0x2000 := by
  rcases region_rows a with r | r | r | r | r | r | r | r | r | r | r | r <;>
    simp only [h, Region.cartRam.injEq, reduceCtorEq, and_false] at r
  omega

theorem region_wram {a : Word} {i : Nat} (h : region a = .wram i) :
    (a.toNat = 0xC000 + i ∧ i < 0x2000) ∨ (a.toNat = 0xE000 + i ∧ i < 0x1E00) := by
  rcases region_rows a with r | r | r | r | r | r | r | r | r | r | r | r <;>
    simp only [h, Region.wram.injEq, reduceCtorEq, and_false] at r <;>
    omega

theorem region_oam {a : Word} {i : Nat} (h : region a = .oam i) : a.toNat = 0xFE00 + i ∧ i < 160 := by
  rcases region_rows a with r | r | r | r | r | r | r | r | r | r | r | r <;>
    simp only [h, Region.oam.injEq, reduceCtorEq, and_false] at r
  omega

theorem region_apu {a : Word} {k : Nat} (h : region a = .apu k) : a.toNat = 0xFF00 + k ∧ 0x10 ≤ k ∧ k < 0x40 := by
  rcases region_rows a with r | r | r | r | r | r | r | r | r | r | r | r <;>
    simp only [h, Region.apu.injEq, reduceCtorEq, and_false] at r
  omega

theorem region_io {a : Word} {k : Nat} (h : region a = .io k) :
    a.toNat = 0xFF00 + k ∧ k < 0x80 ∧ k ≠ 0 ∧ (k < 0x10 ∨ 0x40 ≤ k) := by
  rcases region_rows a with r | r | r | r | r | r | r | r | r | r | r | r <;>
    simp only [h, Region.io.injEq, reduceCtorEq, and_false] at r
  omega

theorem region_hram {a : Word} {i : Nat} (h : region a = .hram i) : a.toNat = 0xFF80 + i ∧ i < 127 := by
  rcases region_rows a with r | r | r | r | r | r | r | r | r | r | r | r <;>
    simp only [h, Region.hram.injEq, reduceCtorEq, and_false] at r
  omega

/-! ## Reads -/

theorem readRegion_setCpu (s : State) (c : Cpu) (r : Region) : readRegion (s.setCpu c) r = readRegion s r := by
  cases r <;> rfl

theorem readRegion_withCycles (s : State) (n : Nat) (r : Region) : readRegion (s.withCycles n) r = readRegion s r := by
  cases r <;> rfl

@[simp] theorem memRead_setCpu (s : State) (c : Cpu) (a : Word) : memRead (s.setCpu c) a = memRead s a :=
  readRegion_setCpu s c _

@[simp] theorem memRead_withCycles (s : State) (n : Nat) (a : Word) : memRead (s.withCycles n) a = memRead s a :=
  readRegion_withCycles s n _

/-- What a read returns is a function of the arrays, the cartridge, the APU and the joypad. -/
theorem readRegion_congr {s t : State} (hm : t.mem = s.mem) (hc : t.cart = s.cart) (ha : t.apu = s.apu)
    (hj : t.joypad = s.joypad) (r : Region) : readRegion t r = readRegion s r := by
  obtain ⟨cpu, mem, cart, ppu, apu, timer, joypad, cycles⟩ := t
  simp only at hm hc ha hj
  subst hm hc ha hj
  cases r <;> rfl

theorem SameDevices.reads {s t : State} (h : SameDevices s t) : SameReads s t :=
  fun _ => readRegion_congr h.1 h.2.1 h.2.2.2.1 h.2.2.2.2.2 _

/-! ## The DMA copy -/

theorem dmaCopy_setCpu (v : Byte) (n : Nat) (s : State) (c : Cpu) :
    dmaCopy v n (s.setCpu c) = (dmaCopy v n s).setCpu c := by
  induction n with
  | zero => rfl
  | succ n ih => simp only [dmaCopy, ih, memRead_setCpu]; rfl

theorem dmaCopy_withCycles (v : Byte) (n : Nat) (s : State) (k : Nat) :
    dmaCopy v n (s.withCycles k) = (dmaCopy v n s).withCycles k := by
  induction n with
  | zero => rfl
  | succ n ih => simp only [dmaCopy, ih, memRead_withCycles]; rfl

/-- The copy changes OAM and nothing else. -/
theorem dmaCopy_eq (v : Byte) (n : Nat) (s : State) :
    dmaCopy v n s = { s with mem := { s.mem with oam := (dmaCopy v n s).mem.oam } } := by
  induction n with
  | zero => rfl
  | succ n ih => simp only [dmaCopy]; generalize memRead _ _ = b; rw [ih]; rfl

/-- The source of turn i of the copy. -/
def dmaSource (v : Byte) (i : Nat) : Word := joinBytes v 0 + BitVec.ofNat 16 i

theorem dmaSource_toNat (v : Byte) {i : Nat} (hi : i < 160) : (dmaSource v i).toNat = v.toNat * 256 + i := by
  have := v.isLt
  simp only [dmaSource, BitVec.toNat_add, joinBytes_toNat, BitVec.toNat_ofNat, BitVec.ofNat_eq_ofNat]
  omega

/-- A copy that reads OAM reads the byte it is about to write. -/
theorem dmaSource_oam {v : Byte} {i j : Nat} (hi : i < 160) (h : region (dmaSource v i) = .oam j) : j = i := by
  have hv := v.isLt
  have h1 := region_oam h
  rw [dmaSource_toNat v hi] at h1
  omega

theorem readRegion_of_oam {s t : State} {m : Memory} (ht : t = { s with mem := { s.mem with oam := m } }) {r : Region}
    (hr : ∀ j, r = .oam j → m.read j = s.mem.oam.read j) : readRegion t r = readRegion s r := by
  subst ht
  cases r <;> first | rfl | exact hr _ rfl

/-- The loop of R88 after `n` turns: the first `n` bytes of OAM are what the bus gave before it, and the others are
unchanged. -/
theorem dmaCopy_oam (v : Byte) (s : State) {n : Nat} (hn : n ≤ 160) (i : Nat) :
    (dmaCopy v n s).mem.oam.read i = if i < n then memRead s (dmaSource v i) else s.mem.oam.read i := by
  induction n generalizing i with
  | zero => simp [dmaCopy]
  | succ n ih =>
    have hn' : n ≤ 160 := by omega
    have key : memRead (dmaCopy v n s) (dmaSource v n) = memRead s (dmaSource v n) := by
      refine readRegion_of_oam (dmaCopy_eq v n s) (fun j hj => ?_)
      have hji := dmaSource_oam (by omega) hj
      rw [ih hn' j, if_neg (by omega)]
    have key' : memRead (dmaCopy v n s) (joinBytes v 0 + BitVec.ofNat 16 n) = memRead s (dmaSource v n) := key
    simp only [dmaCopy, State.setOam_mem_oam, key', Cells.read_write, ih hn']
    by_cases h : i = n
    · subst h; simp
    · have : (i < n + 1) ↔ i < n := by omega
      simp [h, this]

/-! ## Writes -/

theorem oamDma_setCpu (v : Byte) (s : State) (c : Cpu) : oamDma v (s.setCpu c) = (oamDma v s).setCpu c :=
  dmaCopy_setCpu v 160 (s.setIo Io.dma v) c

theorem oamDma_withCycles (v : Byte) (s : State) (n : Nat) : oamDma v (s.withCycles n) = (oamDma v s).withCycles n :=
  dmaCopy_withCycles v 160 (s.setIo Io.dma v) n

theorem oamDma_eq (v : Byte) (s : State) :
    oamDma v s = { s.setIo Io.dma v with mem := { (s.setIo Io.dma v).mem with oam := (oamDma v s).mem.oam } } :=
  dmaCopy_eq v 160 (s.setIo Io.dma v)

theorem writeRegion_setCpu (v : Byte) (s : State) (c : Cpu) (r : Region) :
    writeRegion v (s.setCpu c) r = (writeRegion v s r).setCpu c := by
  cases r with
  | apu off => simp only [writeRegion, apuWrite]; split <;> rfl
  | io off => simp only [writeRegion, ioWrite, oamDma_setCpu]; split_ifs <;> rfl
  | rom _ => rfl
  | vram _ => rfl
  | cartRam _ => rfl
  | wram _ => rfl
  | oam _ => rfl
  | unusable => rfl
  | joyp => rfl
  | hram _ => rfl
  | ie => rfl

theorem writeRegion_withCycles (v : Byte) (s : State) (n : Nat) (r : Region) :
    writeRegion v (s.withCycles n) r = (writeRegion v s r).withCycles n := by
  cases r with
  | apu off => simp only [writeRegion, apuWrite]; split <;> rfl
  | io off => simp only [writeRegion, ioWrite, oamDma_withCycles]; split_ifs <;> rfl
  | rom _ => rfl
  | vram _ => rfl
  | cartRam _ => rfl
  | wram _ => rfl
  | oam _ => rfl
  | unusable => rfl
  | joyp => rfl
  | hram _ => rfl
  | ie => rfl

@[simp] theorem memWrite_setCpu (s : State) (c : Cpu) (a : Word) (v : Byte) :
    memWrite (s.setCpu c) a v = (memWrite s a v).setCpu c := writeRegion_setCpu v s c _

@[simp] theorem memWrite_withCycles (s : State) (n : Nat) (a : Word) (v : Byte) :
    memWrite (s.withCycles n) a v = (memWrite s a v).withCycles n := writeRegion_withCycles v s n _

/-- The parts of the state that no bus write changes. -/
structure BusFrame (s t : State) : Prop where
  cpu : t.cpu = s.cpu
  ppu : t.ppu = s.ppu
  timer : t.timer = s.timer
  cycles : t.cycles = s.cycles
  rom : t.cart.rom = s.cart.rom
  romSize : t.cart.romSize = s.cart.romSize
  ramSize : t.cart.ramSize = s.cart.ramSize
  mapper : t.cart.mapper = s.cart.mapper
  title : t.cart.title = s.cart.title
  pressed : t.joypad.pressed = s.joypad.pressed

theorem BusFrame.rfl' (s : State) : BusFrame s s := ⟨rfl, rfl, rfl, rfl, rfl, rfl, rfl, rfl, rfl, rfl⟩

theorem BusFrame.trans {s t u : State} (h : BusFrame s t) (k : BusFrame t u) : BusFrame s u :=
  ⟨k.cpu.trans h.cpu, k.ppu.trans h.ppu, k.timer.trans h.timer, k.cycles.trans h.cycles, k.rom.trans h.rom,
    k.romSize.trans h.romSize, k.ramSize.trans h.ramSize, k.mapper.trans h.mapper, k.title.trans h.title,
    k.pressed.trans h.pressed⟩

/-- What a mapper write leaves of a cartridge (R104): it changes only the banking registers. -/
theorem Cartridge.write_frame (c : Cartridge) (a : Nat) (v : Byte) :
    (c.write a v).rom = c.rom ∧ (c.write a v).romSize = c.romSize ∧ (c.write a v).ram = c.ram ∧
      (c.write a v).ramSize = c.ramSize ∧ (c.write a v).mapper = c.mapper ∧ (c.write a v).title = c.title := by
  unfold Cartridge.write
  split
  · exact ⟨rfl, rfl, rfl, rfl, rfl, rfl⟩
  · unfold Cartridge.mbc1Write Cartridge.mbc1Upper; split_ifs <;> exact ⟨rfl, rfl, rfl, rfl, rfl, rfl⟩
  · unfold Cartridge.mbc3Write; split_ifs <;> exact ⟨rfl, rfl, rfl, rfl, rfl, rfl⟩
  · unfold Cartridge.mbc5Write; split_ifs <;> exact ⟨rfl, rfl, rfl, rfl, rfl, rfl⟩

/-- What a RAM write leaves of a cartridge (R117): it changes only the RAM. -/
theorem Cartridge.ramWrite_frame (c : Cartridge) (off : Nat) (v : Byte) :
    c.ramWrite off v = { c with ram := (c.ramWrite off v).ram } := by
  unfold Cartridge.ramWrite
  split <;> rfl

theorem writeRegion_frame (v : Byte) (s : State) (r : Region) : BusFrame s (writeRegion v s r) := by
  cases r with
  | rom a =>
    obtain ⟨h1, h2, -, h4, h5, h6⟩ := s.cart.write_frame a v
    exact ⟨rfl, rfl, rfl, rfl, h1, h2, h4, h5, h6, rfl⟩
  | cartRam i =>
    have h := s.cart.ramWrite_frame i v
    refine ⟨rfl, rfl, rfl, rfl, ?_, ?_, ?_, ?_, ?_, rfl⟩ <;> (show _ = _; simp only [writeRegion]; rw [h])
  | apu off => simp only [writeRegion, apuWrite]; split <;> exact ⟨rfl, rfl, rfl, rfl, rfl, rfl, rfl, rfl, rfl, rfl⟩
  | io off =>
    simp only [writeRegion, ioWrite]
    split_ifs
    · exact ⟨rfl, rfl, rfl, rfl, rfl, rfl, rfl, rfl, rfl, rfl⟩
    · exact ⟨rfl, rfl, rfl, rfl, rfl, rfl, rfl, rfl, rfl, rfl⟩
    · rw [oamDma_eq]; exact ⟨rfl, rfl, rfl, rfl, rfl, rfl, rfl, rfl, rfl, rfl⟩
    · exact ⟨rfl, rfl, rfl, rfl, rfl, rfl, rfl, rfl, rfl, rfl⟩
  | joyp => exact ⟨rfl, rfl, rfl, rfl, rfl, rfl, rfl, rfl, rfl, by funext k; cases k <;> rfl⟩
  | vram _ => exact ⟨rfl, rfl, rfl, rfl, rfl, rfl, rfl, rfl, rfl, rfl⟩
  | wram _ => exact ⟨rfl, rfl, rfl, rfl, rfl, rfl, rfl, rfl, rfl, rfl⟩
  | oam _ => exact ⟨rfl, rfl, rfl, rfl, rfl, rfl, rfl, rfl, rfl, rfl⟩
  | unusable => exact ⟨rfl, rfl, rfl, rfl, rfl, rfl, rfl, rfl, rfl, rfl⟩
  | hram _ => exact ⟨rfl, rfl, rfl, rfl, rfl, rfl, rfl, rfl, rfl, rfl⟩
  | ie => exact ⟨rfl, rfl, rfl, rfl, rfl, rfl, rfl, rfl, rfl, rfl⟩

theorem memWrite_frame (s : State) (a : Word) (v : Byte) : BusFrame s (memWrite s a v) := writeRegion_frame v s _

@[simp] theorem memWrite_cpu (s : State) (a : Word) (v : Byte) : (memWrite s a v).cpu = s.cpu := (memWrite_frame s a v).cpu
@[simp] theorem memWrite_ppu (s : State) (a : Word) (v : Byte) : (memWrite s a v).ppu = s.ppu := (memWrite_frame s a v).ppu
@[simp] theorem memWrite_timer (s : State) (a : Word) (v : Byte) : (memWrite s a v).timer = s.timer :=
  (memWrite_frame s a v).timer
@[simp] theorem memWrite_cycles (s : State) (a : Word) (v : Byte) : (memWrite s a v).cycles = s.cycles :=
  (memWrite_frame s a v).cycles

/-- The parts of the APU that only a tick changes: its two clocks, the step of the sequencer, the output buffer, and the
positions of the square channels. -/
structure ApuClocks (u v : Apu) : Prop where
  sampleCycles : v.sampleCycles = u.sampleCycles
  frameSequencerCycles : v.frameSequencerCycles = u.frameSequencerCycles
  frameSequencerStep : v.frameSequencerStep = u.frameSequencerStep
  buffer : v.buffer = u.buffer
  writePos : v.writePos = u.writePos
  ch1Position : v.ch1.dutyPosition = u.ch1.dutyPosition
  ch2Position : v.ch2.dutyPosition = u.ch2.dutyPosition

theorem ApuClocks.rfl' (u : Apu) : ApuClocks u u := ⟨rfl, rfl, rfl, rfl, rfl, rfl, rfl⟩

theorem ApuClocks.trans {u v w : Apu} (h : ApuClocks u v) (k : ApuClocks v w) : ApuClocks u w :=
  ⟨k.sampleCycles.trans h.sampleCycles, k.frameSequencerCycles.trans h.frameSequencerCycles,
    k.frameSequencerStep.trans h.frameSequencerStep, k.buffer.trans h.buffer, k.writePos.trans h.writePos,
    k.ch1Position.trans h.ch1Position, k.ch2Position.trans h.ch2Position⟩

theorem Square.writeControl_dutyPosition (master : Bool) (nrx2 v : Byte) (ch : Square) :
    (ch.writeControl master nrx2 v).dutyPosition = ch.dutyPosition := by
  unfold Square.writeControl
  dsimp only
  split <;> rfl

/-- No register write moves a clock, an output or a square channel's position (R471: no row names one). -/
theorem Apu.writeEffect_clocks (nr12 nr22 nr42 : Byte) (r : ApuReg) (v : Byte) (u : Apu) :
    ApuClocks u (u.writeEffect nr12 nr22 nr42 r v) := by
  cases r with
  | nr14 => exact ⟨rfl, rfl, rfl, rfl, rfl, Square.writeControl_dutyPosition _ _ _ _, rfl⟩
  | nr24 => exact ⟨rfl, rfl, rfl, rfl, rfl, rfl, Square.writeControl_dutyPosition _ _ _ _⟩
  | _ => exact ⟨rfl, rfl, rfl, rfl, rfl, rfl, rfl⟩

theorem writeRegion_apuClocks (v : Byte) (s : State) (r : Region) : ApuClocks s.apu (writeRegion v s r).apu := by
  cases r with
  | apu off =>
    simp only [writeRegion, apuWrite]
    split
    · exact ⟨rfl, rfl, rfl, rfl, rfl, rfl, rfl⟩
    · exact Apu.writeEffect_clocks _ _ _ _ _ _
  | io off =>
    simp only [writeRegion, ioWrite]
    split_ifs
    · exact ApuClocks.rfl' _
    · exact ApuClocks.rfl' _
    · rw [oamDma_eq]; exact ApuClocks.rfl' _
    · exact ApuClocks.rfl' _
  | _ => exact ApuClocks.rfl' _

theorem memWrite_apuClocks (s : State) (a : Word) (v : Byte) : ApuClocks s.apu (memWrite s a v).apu :=
  writeRegion_apuClocks v s _

/-! ## Which reads a write can change -/

theorem apuRead_setIo {s : State} {off k : Nat} (v : Byte) (u : Apu) (h1 : k ≠ off) (h2 : k ≠ Io.nr52) :
    apuRead { s.setIo off v with apu := u } k = apuRead s k := by
  unfold apuRead
  rw [if_neg h2, if_neg h2]
  show (s.setIo off v).io k = _
  simp [h1]

theorem vramReadBlocked_setIo {s : State} {off : Nat} (v : Byte) (h1 : off ≠ Io.lcdc) (h2 : off ≠ Io.stat) :
    vramReadBlocked (s.setIo off v) = vramReadBlocked s := by
  unfold vramReadBlocked State.lcdc State.ppuMode
  simp [Ne.symm h1, Ne.symm h2]

theorem vramRead_setIo {s : State} {off : Nat} (p : VramMode3Read) (v : Byte) (i : Nat) (h1 : off ≠ Io.lcdc)
    (h2 : off ≠ Io.stat) : vramRead p (s.setIo off v) i = vramRead p s i := by
  unfold vramRead
  rw [vramReadBlocked_setIo v h1 h2]
  rfl

/-- Storing an IO byte changes the reads of that byte, and of VRAM if it is LCDC or STAT. -/
theorem readRegion_setIo {s : State} {off : Nat} (v : Byte) {r : Region}
    (hio : ∀ k, r = .io k → k ≠ off) (hapu : ∀ k, r = .apu k → k ≠ off)
    (hvram : ∀ i, r = .vram i → off ≠ Io.lcdc ∧ off ≠ Io.stat) :
    readRegion (s.setIo off v) r = readRegion s r := by
  cases r with
  | vram i => exact vramRead_setIo _ v i (hvram i rfl).1 (hvram i rfl).2
  | apu k =>
    show apuRead (s.setIo off v) k = apuRead s k
    unfold apuRead
    split
    · rfl
    · simp [hapu k rfl]
  | io k => show (s.setIo off v).io k = s.io k; simp [hio k rfl]
  | rom _ => rfl
  | cartRam _ => rfl
  | wram _ => rfl
  | oam _ => rfl
  | unusable => rfl
  | joyp => rfl
  | hram _ => rfl
  | ie => rfl

theorem readRegion_ioWrite {s : State} {off : Nat} (v : Byte) {r : Region} (hio : ∀ k, r = .io k → k ≠ off)
    (hapu : ∀ k, r = .apu k → k ≠ off) (hoam : ∀ i, r = .oam i → off ≠ Io.dma)
    (hvram : ∀ i, r = .vram i → off ≠ Io.lcdc ∧ off ≠ Io.stat) : readRegion (ioWrite off v s) r = readRegion s r := by
  unfold ioWrite
  split_ifs with h1 h2 h3
  · subst h1; exact readRegion_setIo _ hio hapu hvram
  · subst h2; exact readRegion_setIo _ hio hapu hvram
  · subst h3
    rw [readRegion_of_oam (oamDma_eq v s) (fun j hj => absurd rfl (hoam j hj))]
    exact readRegion_setIo _ hio hapu hvram
  · exact readRegion_setIo _ hio hapu hvram

/-- A bus write changes only the reads that `affects` names. -/
theorem memRead_memWrite_of_not_affects (s : State) {a b : Word} (v : Byte) (h : affects a b = false) :
    memRead (memWrite s a v) b = memRead s b := by
  unfold affects at h
  unfold memRead memWrite
  generalize hra : region a = ra at h
  generalize hrb : region b = rb at h
  cases ra with
  | rom i => cases rb <;> first | (simp at h; done) | rfl
  | vram i =>
    cases rb with
    | vram j =>
      have hj : j ≠ i := fun e => by simp [e] at h
      show vramRead _ (s.setVram i v) j = vramRead _ s j
      simp only [vramRead, State.setVram_mem_vram, Cells.read_write, hj, if_false]
      rfl
    | rom _ => rfl
    | cartRam _ => rfl
    | wram _ => rfl
    | oam _ => rfl
    | unusable => rfl
    | joyp => rfl
    | apu _ => rfl
    | io _ => rfl
    | hram _ => rfl
    | ie => rfl
  | cartRam i =>
    cases rb with
    | rom j =>
      show (s.cart.ramWrite i v).read j = s.cart.read j
      rw [s.cart.ramWrite_frame i v]; rfl
    | cartRam j =>
      have hj : j ≠ i := fun e => by simp [e] at h
      show (s.cart.ramWrite i v).ramRead j = s.cart.ramRead j
      unfold Cartridge.ramWrite
      split
      · have hne : s.cart.ramIndex j ≠ s.cart.ramIndex i := by unfold Cartridge.ramIndex; omega
        show (if _ then Cells.read (Cells.write _ _ _) (s.cart.ramIndex j) else _) = _
        rw [Cells.read_write_other _ _ hne]; rfl
      · rfl
    | vram _ => rfl
    | wram _ => rfl
    | oam _ => rfl
    | unusable => rfl
    | joyp => rfl
    | apu _ => rfl
    | io _ => rfl
    | hram _ => rfl
    | ie => rfl
  | wram i =>
    cases rb with
    | wram j =>
      have hj : j ≠ i := fun e => by simp [e] at h
      show (s.mem.wram.write i v).read j = s.mem.wram.read j
      simp [Cells.read_write, hj]
    | rom _ => rfl
    | vram _ => rfl
    | cartRam _ => rfl
    | oam _ => rfl
    | unusable => rfl
    | joyp => rfl
    | apu _ => rfl
    | io _ => rfl
    | hram _ => rfl
    | ie => rfl
  | oam i =>
    cases rb with
    | oam j =>
      have hj : j ≠ i := fun e => by simp [e] at h
      show (s.mem.oam.write i v).read j = s.mem.oam.read j
      simp [Cells.read_write, hj]
    | rom _ => rfl
    | vram _ => rfl
    | cartRam _ => rfl
    | wram _ => rfl
    | unusable => rfl
    | joyp => rfl
    | apu _ => rfl
    | io _ => rfl
    | hram _ => rfl
    | ie => rfl
  | unusable => rfl
  | joyp => cases rb <;> first | (simp at h; done) | rfl
  | apu i =>
    have hi := region_apu hra
    have hv : ∀ k, rb = .vram k → i ≠ Io.lcdc ∧ i ≠ Io.stat := fun _ _ => ⟨by simp only [Io.lcdc]; omega, by simp only [Io.stat]; omega⟩
    have hio : ∀ k, rb = .io k → k ≠ i := fun k e => by subst e; have := region_io hrb; omega
    have hap : ∀ k, rb = .apu k → k ≠ i ∧ k ≠ Io.nr52 := fun k e => by
      subst e; simp only [Bool.or_eq_false_iff, beq_eq_false_iff_ne, ne_eq] at h; exact ⟨Ne.symm h.1, h.2⟩
    show readRegion (apuWrite i v s) rb = readRegion s rb
    unfold apuWrite
    split
    · cases rb with
      | apu k => show apuRead _ k = apuRead s k; simp only [apuRead, (hap k rfl).2, if_false]; rfl
      | rom _ => rfl
      | vram _ => rfl
      | cartRam _ => rfl
      | wram _ => rfl
      | oam _ => rfl
      | unusable => rfl
      | joyp => rfl
      | io _ => rfl
      | hram _ => rfl
      | ie => rfl
    · cases rb with
      | vram k => exact vramRead_setIo _ v k (hv k rfl).1 (hv k rfl).2
      | apu k => exact apuRead_setIo v _ (hap k rfl).1 (hap k rfl).2
      | io k => show (s.setIo i v).io k = s.io k; simp [hio k rfl]
      | rom _ => rfl
      | cartRam _ => rfl
      | wram _ => rfl
      | oam _ => rfl
      | unusable => rfl
      | joyp => rfl
      | hram _ => rfl
      | ie => rfl
  | io i =>
    have hi := region_io hra
    refine readRegion_ioWrite v (fun k e => ?_) (fun k e => ?_) (fun k e => ?_) (fun k e => ?_) <;> subst e
    · simp only [beq_eq_false_iff_ne, ne_eq] at h; exact Ne.symm h
    · have := region_apu hrb; omega
    · simpa using h
    · simpa using h
  | hram i =>
    cases rb with
    | hram j =>
      have hj : j ≠ i := fun e => by simp [e] at h
      show (s.mem.hram.write i v).read j = s.mem.hram.read j
      simp [Cells.read_write, hj]
    | rom _ => rfl
    | vram _ => rfl
    | cartRam _ => rfl
    | wram _ => rfl
    | oam _ => rfl
    | unusable => rfl
    | joyp => rfl
    | apu _ => rfl
    | io _ => rfl
    | ie => rfl
  | ie => cases rb <;> first | (simp at h; done) | rfl

/-! ## The stack (R8) -/

theorem push16_eq (v : Word) (s : State) :
    push16 v s = (memWrite (memWrite s (s.cpu.sp - 1) (hiByte v)) (s.cpu.sp - 1 - 1) (loByte v)).setCpu
      { s.cpu with sp := s.cpu.sp - 1 - 1 } := by
  simp [push16]

theorem popSp_eq (s : State) : popSp s = s.setCpu { s.cpu with sp := s.cpu.sp + 2 } := rfl

theorem inRam_iff (a : Word) : inRam a = true ↔ (∃ i, region a = .wram i) ∨ ∃ i, region a = .hram i := by
  unfold inRam
  cases region a <;> simp

/-- A byte of RAM reads back as it was written. -/
theorem memRead_memWrite_ram (s : State) {a : Word} (v : Byte) (h : inRam a = true) : memRead (memWrite s a v) a = v := by
  unfold memRead memWrite
  obtain ⟨i, hi⟩ | ⟨i, hi⟩ := (inRam_iff a).mp h
  · rw [hi]; show (s.mem.wram.write i v).read i = v; simp
  · rw [hi]; show (s.mem.hram.write i v).read i = v; simp

/-- Two different bytes of RAM of the same row do not affect each other. -/
theorem affects_ram {a b : Word} (ha : inRam a = true) (hb : inRam b = true) (hne : a ≠ b)
    (hfar : a.toNat ≠ b.toNat + 0x2000) (hfar' : b.toNat ≠ a.toNat + 0x2000) : affects a b = false := by
  have hn : a.toNat ≠ b.toNat := fun e => hne (BitVec.eq_of_toNat_eq e)
  unfold affects
  obtain ⟨i, hi⟩ | ⟨i, hi⟩ := (inRam_iff a).mp ha <;> obtain ⟨j, hj⟩ | ⟨j, hj⟩ := (inRam_iff b).mp hb <;>
    simp only [hi, hj, beq_eq_false_iff_ne, ne_eq]
  · have := region_wram hi; have := region_wram hj; omega
  · have := region_hram hi; have := region_hram hj; omega

end Sys2Proof.Machine
end

