-- ==== Sys2Proof/Laws/Canonical.lean ====
section
/-! SUPPORT. Every memory operation keeps the canonical form and the size of every array: the bus write, the DMA copy,
the stack push, and planting an instruction. The reset state has it. -/

namespace Sys2Proof.Machine

theorem cellsOk_nil {w size : Nat} : CellsOk ([] : Cells w) size := ⟨Cells.wf_nil, by simp⟩

theorem CellsOk.write {w size : Nat} {m : Cells w} (h : CellsOk m size) {k : Nat} (hk : k < size) (v : BitVec w) :
    CellsOk (m.write k v) size := ⟨Cells.wf_write h.1 k v, Cells.write_keys_lt h.2 hk⟩

theorem CellsOk.writeRange {w size : Nat} {m : Cells w} (h : CellsOk m size) {base n : Nat} (f : Nat → BitVec w)
    (hb : base + n ≤ size) : CellsOk (m.writeRange base f n) size :=
  ⟨Cells.wf_writeRange h.1 base f n, Cells.writeRange_keys_lt h.2 hb⟩

theorem CellsOk.mono {w m n : Nat} {c : Cells w} (h : CellsOk c m) (hmn : m ≤ n) : CellsOk c n :=
  ⟨h.1, fun x hx => lt_of_lt_of_le (h.2 x hx) hmn⟩

theorem MemoryOk.setIo {s : State} (h : MemoryOk s) {off : Nat} (ho : off < 128) (v : Byte) : MemoryOk (s.setIo off v) :=
  ⟨h.1, h.2.1, h.2.2.1, h.2.2.2.1.write ho v, h.2.2.2.2⟩

theorem MemoryOk.setOam {s : State} (h : MemoryOk s) {i : Nat} (hi : i < 160) (v : Byte) : MemoryOk (s.setOam i v) :=
  ⟨h.1, h.2.1, h.2.2.1.write hi v, h.2.2.2⟩

theorem MemoryOk.setVram {s : State} (h : MemoryOk s) {i : Nat} (hi : i < 0x2000) (v : Byte) : MemoryOk (s.setVram i v) :=
  ⟨h.1.write hi v, h.2⟩

theorem MemoryOk.setWram {s : State} (h : MemoryOk s) {i : Nat} (hi : i < 0x2000) (v : Byte) : MemoryOk (s.setWram i v) :=
  ⟨h.1, h.2.1.write hi v, h.2.2⟩

theorem MemoryOk.setHram {s : State} (h : MemoryOk s) {i : Nat} (hi : i < 127) (v : Byte) : MemoryOk (s.setHram i v) :=
  ⟨h.1, h.2.1, h.2.2.1, h.2.2.2.1, h.2.2.2.2.1.write hi v, h.2.2.2.2.2⟩

/-- The canonical form is about the arrays and the cartridge's two images. -/
theorem MemoryOk.congr {s t : State} (h : MemoryOk s) (hm : t.mem = s.mem) (hr : t.cart.ram = s.cart.ram)
    (hrs : t.cart.ramSize = s.cart.ramSize) (ho : t.cart.rom = s.cart.rom) (hos : t.cart.romSize = s.cart.romSize) :
    MemoryOk t := by
  unfold MemoryOk at *
  rw [hm, hr, hrs, ho, hos]
  exact h

theorem MemoryOk.setCpu {s : State} (h : MemoryOk s) (c : Cpu) : MemoryOk (s.setCpu c) := h

theorem MemoryOk.withCycles {s : State} (h : MemoryOk s) (n : Nat) : MemoryOk (s.withCycles n) := h

theorem MemoryOk.cart_write {s : State} (h : MemoryOk s) (a : Nat) (v : Byte) :
    MemoryOk { s with cart := s.cart.write a v } := by
  obtain ⟨h1, h2, h3, h4, -, -⟩ := s.cart.write_frame a v
  exact h.congr rfl h3 h4 h1 h2

theorem MemoryOk.cart_ramWrite {s : State} (h : MemoryOk s) (i : Nat) (v : Byte) :
    MemoryOk { s with cart := s.cart.ramWrite i v } := by
  unfold Cartridge.ramWrite
  split
  · next hi => exact ⟨h.1, h.2.1, h.2.2.1, h.2.2.2.1, h.2.2.2.2.1, h.2.2.2.2.2.1.write hi.2 v, h.2.2.2.2.2.2⟩
  · exact h

theorem memoryOk_dmaCopy {s : State} (h : MemoryOk s) (v : Byte) {n : Nat} (hn : n ≤ 160) : MemoryOk (dmaCopy v n s) := by
  induction n with
  | zero => exact h
  | succ n ih => exact (ih (by omega)).setOam (by omega) _

theorem memoryOk_oamDma {s : State} (h : MemoryOk s) (v : Byte) : MemoryOk (oamDma v s) :=
  memoryOk_dmaCopy (h.setIo (by decide) v) v (Nat.le_refl _)

/-- A bus write keeps every array canonical and within its size. -/
theorem memoryOk_memWrite {s : State} (h : MemoryOk s) (a : Word) (v : Byte) : MemoryOk (memWrite s a v) := by
  unfold memWrite
  cases hr : region a with
  | rom i => exact h.cart_write i v
  | vram i => exact h.setVram (region_vram hr).2 v
  | cartRam i => exact h.cart_ramWrite i v
  | wram i => exact h.setWram (by rcases region_wram hr with e | e <;> omega) v
  | oam i => exact h.setOam (region_oam hr).2 v
  | unusable => exact h
  | joyp => exact h
  | apu k =>
    have hk := region_apu hr
    show MemoryOk (apuWrite k v s)
    unfold apuWrite
    split
    · exact h
    · exact h.setIo (by omega) v
  | io k =>
    have hk := region_io hr
    show MemoryOk (ioWrite k v s)
    unfold ioWrite
    split_ifs
    · exact h.setIo (by decide) _
    · exact h.setIo (by decide) _
    · exact memoryOk_oamDma h v
    · exact h.setIo (by omega) v
  | hram i => exact h.setHram (region_hram hr).2 v
  | ie => exact h

theorem memoryOk_push16 {s : State} (h : MemoryOk s) (v : Word) : MemoryOk (push16 v s) := by
  rw [push16_eq]
  exact memoryOk_memWrite (memoryOk_memWrite h _ _) _ _

theorem memoryOk_takeInterrupt {s : State} (h : MemoryOk s) (k : Nat) : MemoryOk (takeInterrupt k s) := by
  simp only [takeInterrupt]
  exact ((memoryOk_push16 ((h.setIo (by decide) _).setCpu _) _).setCpu _).withCycles _

/-- R570: the arrays of the reset state are canonical. -/
theorem memoryOk_reset : MemoryOk State.reset := by
  refine ⟨cellsOk_nil, cellsOk_nil, cellsOk_nil, ?_, cellsOk_nil, cellsOk_nil, cellsOk_nil⟩
  show CellsOk [(0x40, 0x91), (0x41, 0x85), (0x47, 0xFC)] 128
  unfold CellsOk Cells.wf
  decide

end Sys2Proof.Machine
end

