-- ==== Sys2Proof/Laws/Devices.lean ====
section
/-! SUPPORT. What the devices can do in a tick: for each device the updates that its tick is made of, as one induction
rule, and what follows from it: which parts of the state a tick leaves alone, that every array stays canonical, and
where the accumulators end. -/

namespace Sys2Proof.Machine

theorem applyTimes_induct {α : Type} {P : α → Prop} {f : α → α} (hf : ∀ x, P x → P (f x)) :
    ∀ (n : Nat) {x : α}, P x → P (applyTimes f n x)
  | 0, _, h => h
  | n + 1, _, h => applyTimes_induct hf n (hf _ h)

theorem applyTimes_add {α : Type} (f : α → α) (m n : Nat) (x : α) :
    applyTimes f (m + n) x = applyTimes f n (applyTimes f m x) := by
  induction m generalizing x with
  | zero => simp [applyTimes]
  | succ m ih => rw [Nat.succ_add]; exact ih (f x)

/-! ## The PPU -/

/-- The updates that a PPU tick is made of (R402 to R407, R410). A property that each of them keeps is kept by every
tick. -/
structure PpuKeeps (P : State → Prop) : Prop where
  intFlag : ∀ s v, P s → P (s.setIo Io.intFlag v)
  ly : ∀ s v, P s → P (s.setIo Io.ly v)
  stat : ∀ s v, bitOf v 7 = bitOf (s.io Io.stat) 7 → P s → P (s.setIo Io.stat v)
  scanline : ∀ s n, P s → P (s.setScanlineCycles n)
  render : ∀ s ly, ly < 144 → P s → P (renderLine ly s)
  ready : ∀ s, P s → P { s with ppu := { s.ppu with frameReady := true } }

variable {P : State → Prop}

theorem PpuKeeps.request (h : PpuKeeps P) (k : Nat) {s : State} (hs : P s) : P (request k s) := h.intFlag s _ hs

theorem putMode_top (v : Byte) (m : BitVec 2) : bitOf ((v &&& 0xFC#8) ||| m.zeroExtend 8) 7 = bitOf v 7 := by
  simp [bitOf]

theorem PpuKeeps.setMode (h : PpuKeeps P) (m : BitVec 2) {s : State} (hs : P s) : P (setMode m s) := by
  have h1 : P (putMode m s) := h.stat s _ (putMode_top _ _) hs
  unfold Machine.setMode
  split
  · exact h.request 1 h1
  · exact h1

theorem PpuKeeps.lycCompare (h : PpuKeeps P) {s : State} (hs : P s) : P (lycCompare s) := by
  have h1 : P (s.setIo Io.stat (s.io Io.stat ||| 0x04#8)) := h.stat s _ (by simp [bitOf]) hs
  unfold Machine.lycCompare
  dsimp only
  split_ifs
  · exact h.request 1 h1
  · exact h1
  · exact h.stat s _ (by simp [bitOf]) hs

theorem PpuKeeps.endMode (h : PpuKeeps P) {s : State} (hs : P s) : P (endMode s) := by
  unfold Machine.endMode
  split
  · unfold endHBlank
    dsimp only
    have h2 := h.lycCompare (h.ly _ (s.io Io.ly + 1) (h.scanline s (s.ppu.scanlineCycles - 204) hs))
    split
    · exact h.ready _ (h.request 0 (h.setMode 1 h2))
    · exact h.setMode 2 h2
  · unfold endVBlankLine
    dsimp only
    have h1 := h.scanline s (s.ppu.scanlineCycles - 456) hs
    split
    · exact h.lycCompare (h.setMode 2 (h.ly _ 0 h1))
    · exact h.lycCompare (h.ly _ _ h1)
  · exact h.setMode 3 (h.scanline s _ hs)
  · unfold endDrawing
    dsimp only
    have h1 := h.setMode 0 (h.scanline s (s.ppu.scanlineCycles - 172) hs)
    split
    · next hl => exact h.render _ _ hl h1
    · exact h1

theorem PpuKeeps.loop (h : PpuKeeps P) : ∀ (n : Nat) {s : State}, P s → P (ppuLoop n s)
  | 0, _, hs => hs
  | n + 1, s, hs => by
    unfold ppuLoop
    split
    · exact PpuKeeps.loop h n (h.endMode hs)
    · exact hs

theorem PpuKeeps.tick (h : PpuKeeps P) (n : Nat) {s : State} (hs : P s) : P (ppuTick n s) := by
  unfold ppuTick
  split
  · exact h.loop _ (h.scanline s _ hs)
  · exact h.scanline _ 0 (h.ly s 0 hs)

/-- A PPU tick changes only IF, STAT, LY and the PPU's own state. -/
structure PpuFrame (s t : State) : Prop where
  cpu : t.cpu = s.cpu
  cart : t.cart = s.cart
  apu : t.apu = s.apu
  timer : t.timer = s.timer
  joypad : t.joypad = s.joypad
  cycles : t.cycles = s.cycles
  mem : t.mem = { s.mem with io := t.mem.io }
  io : ∀ k, k ≠ Io.intFlag → k ≠ Io.stat → k ≠ Io.ly → t.io k = s.io k

theorem ppuFrame_keeps (s₀ : State) : PpuKeeps (PpuFrame s₀) where
  intFlag s v h := ⟨h.cpu, h.cart, h.apu, h.timer, h.joypad, h.cycles,
    by have := h.mem; simp only [State.setIo]; rw [this], fun k h1 h2 h3 => by simp [h1, h.io k h1 h2 h3]⟩
  ly s v h := ⟨h.cpu, h.cart, h.apu, h.timer, h.joypad, h.cycles,
    by have := h.mem; simp only [State.setIo]; rw [this], fun k h1 h2 h3 => by simp [h3, h.io k h1 h2 h3]⟩
  stat s v _ h := ⟨h.cpu, h.cart, h.apu, h.timer, h.joypad, h.cycles,
    by have := h.mem; simp only [State.setIo]; rw [this], fun k h1 h2 h3 => by simp [h2, h.io k h1 h2 h3]⟩
  scanline _ _ h := ⟨h.cpu, h.cart, h.apu, h.timer, h.joypad, h.cycles, h.mem, h.io⟩
  render _ _ _ h := ⟨h.cpu, h.cart, h.apu, h.timer, h.joypad, h.cycles, h.mem, h.io⟩
  ready _ h := ⟨h.cpu, h.cart, h.apu, h.timer, h.joypad, h.cycles, h.mem, h.io⟩

theorem ppuTick_frame (n : Nat) (s : State) : PpuFrame s (ppuTick n s) :=
  (ppuFrame_keeps s).tick n ⟨rfl, rfl, rfl, rfl, rfl, rfl, rfl, fun _ _ _ _ => rfl⟩

theorem memoryOk_ppuKeeps : PpuKeeps MemoryOk where
  intFlag _ _ h := h.setIo (by decide) _
  ly _ _ h := h.setIo (by decide) _
  stat _ _ _ h := h.setIo (by decide) _
  scanline _ _ h := h
  render _ _ _ h := h
  ready _ h := h

theorem outputOk_ppuKeeps : PpuKeeps OutputOk where
  intFlag _ _ h := h
  ly _ _ h := h
  stat _ _ _ h := h
  scanline _ _ h := h
  render _ _ hl h := ⟨h.1.writeRange _ (by omega), h.2⟩
  ready _ h := h

theorem statTop_ppuKeeps : PpuKeeps StatTop where
  intFlag s v h := by unfold StatTop at *; simpa using h
  ly s v h := by unfold StatTop at *; simpa using h
  stat s v hv h := by unfold StatTop at *; simp only [State.io_setIo, if_true]; rw [hv]; exact h
  scanline _ _ h := h
  render _ _ _ h := h
  ready _ h := h

/-! Where the loop of R403 ends. -/

theorem putMode_scanline (m : BitVec 2) (s : State) : (putMode m s).ppu.scanlineCycles = s.ppu.scanlineCycles := rfl

theorem setMode_scanline (m : BitVec 2) (s : State) : (setMode m s).ppu.scanlineCycles = s.ppu.scanlineCycles := by
  unfold setMode; split <;> rfl

theorem lycCompare_scanline (s : State) : (lycCompare s).ppu.scanlineCycles = s.ppu.scanlineCycles := by
  unfold lycCompare; dsimp only; split_ifs <;> rfl

/-- The end of a mode takes the mode's length from the cycles of the line. -/
theorem endMode_scanline (s : State) :
    (endMode s).ppu.scanlineCycles = s.ppu.scanlineCycles - modeLength s.ppuMode := by
  unfold endMode modeLength
  split
  · unfold endHBlank
    dsimp only
    split
    · show (setMode 1 _).ppu.scanlineCycles = _
      rw [setMode_scanline, lycCompare_scanline]; rfl
    · rw [setMode_scanline, lycCompare_scanline]; rfl
  · unfold endVBlankLine
    dsimp only
    split
    · rw [lycCompare_scanline, setMode_scanline]; rfl
    · rw [lycCompare_scanline]; rfl
  · unfold endOamSearch
    rw [setMode_scanline]; rfl
  · unfold endDrawing
    dsimp only
    split
    · show (setMode 0 _).ppu.scanlineCycles = _
      rw [setMode_scanline]; rfl
    · rw [setMode_scanline]; rfl

theorem modeLength_bounds (m : BitVec 2) : 80 ≤ modeLength m ∧ modeLength m ≤ 456 := by
  revert m; decide

/-- With as many turns as there are cycles the loop ends by its condition: less than the mode's length is left. -/
theorem ppuLoop_ends (n : Nat) {s : State} (h : s.ppu.scanlineCycles ≤ n) :
    (ppuLoop n s).ppu.scanlineCycles < modeLength (ppuLoop n s).ppuMode := by
  induction n generalizing s with
  | zero =>
    have := (modeLength_bounds s.ppuMode).1
    show s.ppu.scanlineCycles < modeLength s.ppuMode
    omega
  | succ n ih =>
    unfold ppuLoop
    split
    · next hc =>
      refine ih ?_
      rw [endMode_scanline]
      have := (modeLength_bounds s.ppuMode).1
      omega
    · omega

theorem ppuTick_scanline (n : Nat) (s : State) : (ppuTick n s).ppu.scanlineCycles < 456 := by
  unfold ppuTick
  split
  · exact lt_of_lt_of_le (ppuLoop_ends _ (Nat.le_refl _)) (modeLength_bounds _).2
  · show (0 : Nat) < 456
    decide

/-! ## The timer -/

/-- The updates that a timer tick is made of (R544 to R546). -/
structure TimerKeeps (P : State → Prop) : Prop where
  io : ∀ s k v, k = Io.div ∨ k = Io.tima ∨ k = Io.intFlag → P s → P (s.setIo k v)
  timer : ∀ s u, P s → P { s with timer := u }

theorem TimerKeeps.increment (h : TimerKeeps P) {s : State} (hs : P s) : P (timaIncrement s) := by
  unfold timaIncrement
  split
  · exact h.io _ _ _ (.inr (.inr rfl)) (h.io _ _ _ (.inr (.inl rfl)) hs)
  · exact h.io _ _ _ (.inr (.inl rfl)) hs

theorem TimerKeeps.tick (h : TimerKeeps P) (n : Nat) {s : State} (hs : P s) : P (timerTick n s) := by
  have h1 : P (divTick n s) := h.timer _ _ (h.io s _ _ (.inl rfl) hs)
  unfold timerTick timaTick
  dsimp only
  split
  · exact applyTimes_induct (fun _ hx => h.increment hx) _ (h.timer _ _ h1)
  · exact h1

/-- A timer tick changes only IF, DIV, TIMA and the timer's own state. -/
structure TimerFrame (s t : State) : Prop where
  cpu : t.cpu = s.cpu
  cart : t.cart = s.cart
  ppu : t.ppu = s.ppu
  apu : t.apu = s.apu
  joypad : t.joypad = s.joypad
  cycles : t.cycles = s.cycles
  mem : t.mem = { s.mem with io := t.mem.io }
  io : ∀ k, k ≠ Io.div → k ≠ Io.tima → k ≠ Io.intFlag → t.io k = s.io k

theorem timerFrame_keeps (s₀ : State) : TimerKeeps (TimerFrame s₀) where
  io s k v hk h := ⟨h.cpu, h.cart, h.ppu, h.apu, h.joypad, h.cycles,
    by have := h.mem; simp only [State.setIo]; rw [this],
    fun j h1 h2 h3 => by
      have : j ≠ k := by rcases hk with rfl | rfl | rfl <;> assumption
      simp [this, h.io j h1 h2 h3]⟩
  timer _ _ h := ⟨h.cpu, h.cart, h.ppu, h.apu, h.joypad, h.cycles, h.mem, h.io⟩

theorem timerTick_frame (n : Nat) (s : State) : TimerFrame s (timerTick n s) :=
  (timerFrame_keeps s).tick n ⟨rfl, rfl, rfl, rfl, rfl, rfl, rfl, fun _ _ _ _ => rfl⟩

theorem memoryOk_timerKeeps : TimerKeeps MemoryOk where
  io _ k v hk h := h.setIo (by rcases hk with rfl | rfl | rfl <;> decide) v
  timer _ _ h := h

theorem timerPeriod_bounds (v : Byte) : 16 ≤ timerPeriod v ∧ timerPeriod v ≤ 1024 := by
  unfold timerPeriod
  split <;> decide

/-- The increments of TIMA change no accumulator. -/
theorem timaIncrement_timer (s : State) : (timaIncrement s).timer = s.timer := by
  unfold timaIncrement; split <;> rfl

theorem timaIncrements_timer (k : Nat) (s : State) : (applyTimes timaIncrement k s).timer = s.timer :=
  applyTimes_induct (P := fun t => t.timer = s.timer) (fun x hx => (timaIncrement_timer x).trans hx) k rfl

/-- R544: where the two accumulators end. -/
theorem timerTick_timer (n : Nat) (s : State) :
    (timerTick n s).timer.divCycles = (s.timer.divCycles + n) % 256 ∧
    (timerTick n s).timer.timaCycles =
      if timerEnabled s then (s.timer.timaCycles + n) % timerPeriod (s.io Io.tac) else s.timer.timaCycles := by
  have htac : (divTick n s).io Io.tac = s.io Io.tac := by
    show (s.setIo Io.div _).io Io.tac = _
    simp
  have hen : timerEnabled (divTick n s) = timerEnabled s := by unfold timerEnabled; rw [htac]
  unfold timerTick timaTick
  dsimp only
  rw [hen, htac]
  split
  · rw [timaIncrements_timer]; exact ⟨rfl, rfl⟩
  · exact ⟨rfl, rfl⟩

/-! ## The APU -/

/-- What a frame-sequencer step and a sample keep of a state: all but the APU. -/
structure ApuFrame (s t : State) : Prop where
  eq : t = { s with apu := t.apu }

theorem ApuFrame.trans {s t u : State} (h : ApuFrame s t) (k : ApuFrame t u) : ApuFrame s u :=
  ⟨by obtain ⟨h⟩ := h; obtain ⟨k⟩ := k; rw [k, h]⟩

theorem frameSequencerStep_frame (s : State) : ApuFrame s (frameSequencerStep s) := by
  constructor
  unfold frameSequencerStep lengthTick
  dsimp only
  split <;> rfl

theorem emitFrame_frame (s : State) : ApuFrame s (emitFrame s) := ⟨rfl⟩

/-- An APU tick changes only the APU. -/
theorem apuTick_frame (n : Nat) (s : State) : ApuFrame s (apuTick n s) := by
  unfold apuTick sampleTick frameSequencerTick
  dsimp only
  refine ApuFrame.trans ?_
    (applyTimes_induct (P := ApuFrame _) (fun x hx => hx.trans (emitFrame_frame x)) _ ⟨rfl⟩)
  refine ApuFrame.trans ?_ (ApuFrame.trans
    (applyTimes_induct (P := ApuFrame _) (fun x hx => hx.trans (frameSequencerStep_frame x)) _ ⟨rfl⟩) ⟨rfl⟩)
  exact ⟨rfl⟩

/-! The sweep, the envelope, the length ticks and the generators change no accumulator and no output. -/

/-- The accumulators of the two clocks and the output buffer. -/
structure SameOutput (u v : Apu) : Prop where
  buffer : v.buffer = u.buffer
  writePos : v.writePos = u.writePos
  sampleCycles : v.sampleCycles = u.sampleCycles
  frameSequencerCycles : v.frameSequencerCycles = u.frameSequencerCycles

theorem SameOutput.rfl' (u : Apu) : SameOutput u u := ⟨rfl, rfl, rfl, rfl⟩

theorem SameOutput.trans {u v w : Apu} (h : SameOutput u v) (k : SameOutput v w) : SameOutput u w :=
  ⟨k.buffer.trans h.buffer, k.writePos.trans h.writePos, k.sampleCycles.trans h.sampleCycles,
    k.frameSequencerCycles.trans h.frameSequencerCycles⟩

theorem sweepTick_output (u : Apu) : SameOutput u (sweepTick u) := by
  unfold sweepTick
  dsimp only
  split_ifs <;> exact ⟨rfl, rfl, rfl, rfl⟩

theorem frameSequencerStep_output (s : State) : SameOutput s.apu (frameSequencerStep s).apu := by
  have h1 : ∀ u : Apu, SameOutput s.apu u → ∀ p : Prop, ∀ [Decidable p], SameOutput s.apu (if p then sweepTick u else u) :=
    fun u hu p _ => by split; exacts [hu.trans (sweepTick_output u), hu]
  have h2 : ∀ u : Apu, SameOutput s.apu u → ∀ p : Prop, ∀ [Decidable p], SameOutput s.apu (if p then envelopeTick u else u) :=
    fun u hu p _ => by split; exacts [hu.trans ⟨rfl, rfl, rfl, rfl⟩, hu]
  have h0 : SameOutput s.apu (if s.apu.frameSequencerStep.toNat % 2 = 0 then lengthTick s else s).apu := by
    split <;> exact ⟨rfl, rfl, rfl, rfl⟩
  unfold frameSequencerStep
  dsimp only
  exact (h2 _ (h1 _ h0 _) _).trans ⟨rfl, rfl, rfl, rfl⟩

theorem frameSequencerSteps_output (k : Nat) (s : State) :
    SameOutput s.apu (applyTimes frameSequencerStep k s).apu :=
  applyTimes_induct (P := fun t => SameOutput s.apu t.apu) (fun x hx => hx.trans (frameSequencerStep_output x)) k
    (SameOutput.rfl' _)

theorem writeFrame_clocks (l r : Int) (u : Apu) :
    (u.writeFrame l r).sampleCycles = u.sampleCycles ∧ (u.writeFrame l r).frameSequencerCycles = u.frameSequencerCycles := by
  unfold Apu.writeFrame; split <;> exact ⟨rfl, rfl⟩

theorem emitFrames_clocks (k : Nat) (s : State) :
    (applyTimes emitFrame k s).apu.sampleCycles = s.apu.sampleCycles ∧
      (applyTimes emitFrame k s).apu.frameSequencerCycles = s.apu.frameSequencerCycles :=
  applyTimes_induct
    (P := fun (t : State) => t.apu.sampleCycles = s.apu.sampleCycles ∧ t.apu.frameSequencerCycles = s.apu.frameSequencerCycles)
    (fun x hx => ⟨(writeFrame_clocks _ _ x.apu).1.trans hx.1, (writeFrame_clocks _ _ x.apu).2.trans hx.2⟩) k ⟨rfl, rfl⟩

theorem frameSequencerTick_output (n : Nat) (s : State) :
    SameOutput { s.apu with frameSequencerCycles := (s.apu.frameSequencerCycles + n) % 8192 }
      (frameSequencerTick n s).apu :=
  frameSequencerSteps_output ((s.apu.frameSequencerCycles + n) / 8192)
    { s with apu := { s.apu with frameSequencerCycles := (s.apu.frameSequencerCycles + n) % 8192 } }

theorem frameSequencerTick_frame (n : Nat) (s : State) : ApuFrame s (frameSequencerTick n s) := by
  unfold frameSequencerTick
  dsimp only
  refine ApuFrame.trans ?_
    (applyTimes_induct (P := ApuFrame _) (fun x hx => hx.trans (frameSequencerStep_frame x)) _ ⟨rfl⟩)
  exact ⟨rfl⟩

/-- R451: where the two accumulators end. -/
theorem apuTick_clocks (n : Nat) (s : State) :
    (apuTick n s).apu.sampleCycles = (s.apu.sampleCycles + n) % 128 ∧
      (apuTick n s).apu.frameSequencerCycles = (s.apu.frameSequencerCycles + n) % 8192 := by
  have key := frameSequencerTick_output n { s with apu := advanceGenerators n s.apu }
  unfold apuTick sampleTick
  dsimp only
  rw [(emitFrames_clocks _ _).1, (emitFrames_clocks _ _).2]
  refine ⟨?_, key.frameSequencerCycles⟩
  show (_ + n) % 128 = _
  rw [key.sampleCycles]; rfl

theorem outputOk_emitFrame {s : State} (h : OutputOk s) : OutputOk (emitFrame s) := by
  obtain ⟨h1, h2, h3⟩ := h
  refine ⟨h1, ?_⟩
  show CellsOk (Apu.writeFrame _ _ s.apu).buffer 4096 ∧ (Apu.writeFrame _ _ s.apu).writePos ≤ 2048
  unfold Apu.writeFrame
  split
  · exact ⟨(h2.write (by omega) _).write (by omega) _, by show s.apu.writePos + 1 ≤ 2048; omega⟩
  · exact ⟨h2, h3⟩

/-- The output buffers depend on the framebuffer and on the APU's output. -/
theorem OutputOk.congr {s t : State} (h : OutputOk s) (hf : t.ppu.framebuffer = s.ppu.framebuffer)
    (hb : t.apu.buffer = s.apu.buffer) (hw : t.apu.writePos = s.apu.writePos) : OutputOk t := by
  unfold OutputOk at *
  rw [hf, hb, hw]
  exact h

theorem outputOk_apuTick {s : State} (h : OutputOk s) (n : Nat) : OutputOk (apuTick n s) := by
  unfold apuTick sampleTick
  dsimp only
  refine applyTimes_induct (fun _ hx => outputOk_emitFrame hx) _ ?_
  have h0 : OutputOk { s with apu := advanceGenerators n s.apu } := h
  have hf := frameSequencerTick_frame n { s with apu := advanceGenerators n s.apu }
  have ho := frameSequencerTick_output n { s with apu := advanceGenerators n s.apu }
  exact h0.congr (by rw [hf.eq]) ho.buffer ho.writePos

end Sys2Proof.Machine
end

