-- ==== Sys2Proof/Laws/Families.lean ====
section
/-! SUPPORT. A statement about every instruction is a statement about each row family of the opcode map. -/

namespace Sys2Proof

/-- Every instruction belongs to one family of the prose of R146 and R147, or is one of the single rows. -/
theorem Instr.byFamily {P : Instr → Prop}
    (ld8 : ∀ (dst : Operand8) (src : Operand8), ¬(dst = .indHl ∧ src = .indHl) → P (Instr.ld8 dst src))
    (ldImm8 : ∀ (n : Byte) (r : Operand8), P (Instr.ldImm8 n r))
    (alu8 : ∀ (op : AluOp) (r : Operand8), P (Instr.alu8 op r))
    (aluImm : ∀ (n : Byte) (op : AluOp), P (Instr.aluImm n op))
    (inc8 : ∀ (r : Operand8), P (Instr.inc8 r))
    (dec8 : ∀ (r : Operand8), P (Instr.dec8 r))
    (ldImm16 : ∀ (nn : Word) (p : Pair), P (Instr.ldImm16 nn p))
    (push : ∀ (p : StackPair), P (Instr.push p))
    (pop : ∀ (p : StackPair), P (Instr.pop p))
    (addHl : ∀ (p : Pair), P (Instr.addHl p))
    (inc16 : ∀ (p : Pair), P (Instr.inc16 p))
    (dec16 : ∀ (p : Pair), P (Instr.dec16 p))
    (jrCond : ∀ (e : Byte) (cc : Cond), P (Instr.jrCond e cc))
    (jpCond : ∀ (nn : Word) (cc : Cond), P (Instr.jpCond nn cc))
    (callCond : ∀ (nn : Word) (cc : Cond), P (Instr.callCond nn cc))
    (retCond : ∀ (cc : Cond), P (Instr.retCond cc))
    (rst : ∀ (y : Index8), P (Instr.rst y))
    (rot : ∀ (op : RotOp) (r : Operand8), P (Instr.rot op r))
    (bit : ∀ (b : Index8) (r : Operand8), P (Instr.bit b r))
    (res : ∀ (b : Index8) (r : Operand8), P (Instr.res b r))
    (set : ∀ (b : Index8) (r : Operand8), P (Instr.set b r))
    (illegal : ∀ (k : IllegalOp), P (Instr.illegal k))
    (ldIndNnSp : ∀ nn : Word, P (.ldIndNnSp nn))
    (stop : ∀ n : Byte, P (.stop n))
    (jrE8 : ∀ e : Byte, P (.jrE8 e))
    (jpNn : ∀ nn : Word, P (.jpNn nn))
    (callNn : ∀ nn : Word, P (.callNn nn))
    (ldhIndNA : ∀ n : Byte, P (.ldhIndNA n))
    (addSpE8 : ∀ e : Byte, P (.addSpE8 e))
    (ldIndNnA : ∀ nn : Word, P (.ldIndNnA nn))
    (ldhAIndN : ∀ n : Byte, P (.ldhAIndN n))
    (ldHlSpE8 : ∀ e : Byte, P (.ldHlSpE8 e))
    (ldAIndNn : ∀ nn : Word, P (.ldAIndNn nn))
    (nop : P .nop)
    (ldIndBcA : P .ldIndBcA)
    (rlca : P .rlca)
    (ldAIndBc : P .ldAIndBc)
    (rrca : P .rrca)
    (ldIndDeA : P .ldIndDeA)
    (rla : P .rla)
    (ldAIndDe : P .ldAIndDe)
    (rra : P .rra)
    (ldIndHliA : P .ldIndHliA)
    (daa : P .daa)
    (ldAIndHli : P .ldAIndHli)
    (cpl : P .cpl)
    (ldIndHldA : P .ldIndHldA)
    (scf : P .scf)
    (ldAIndHld : P .ldAIndHld)
    (ccf : P .ccf)
    (ret : P .ret)
    (reti : P .reti)
    (ldIndCA : P .ldIndCA)
    (jpHl : P .jpHl)
    (ldAIndC : P .ldAIndC)
    (di : P .di)
    (ldSpHl : P .ldSpHl)
    (ei : P .ei)
    (halt : P .halt)
    (i : Instr) : P i :=
  match i with
  | .ldBcNn nn => ldImm16 nn .bc
  | .ldBN n => ldImm8 n .b
  | .ldIndNnSp nn => ldIndNnSp nn
  | .ldCN n => ldImm8 n .c
  | .stop n => stop n
  | .ldDeNn nn => ldImm16 nn .de
  | .ldDN n => ldImm8 n .d
  | .jrE8 e => jrE8 e
  | .ldEN n => ldImm8 n .e
  | .jrNzE8 e => jrCond e .nz
  | .ldHlNn nn => ldImm16 nn .hl
  | .ldHN n => ldImm8 n .h
  | .jrZE8 e => jrCond e .z
  | .ldLN n => ldImm8 n .l
  | .jrNcE8 e => jrCond e .nc
  | .ldSpNn nn => ldImm16 nn .sp
  | .ldIndHlN n => ldImm8 n .indHl
  | .jrCE8 e => jrCond e .c
  | .ldAN n => ldImm8 n .a
  | .jpNzNn nn => jpCond nn .nz
  | .jpNn nn => jpNn nn
  | .callNzNn nn => callCond nn .nz
  | .addAN n => aluImm n .add
  | .jpZNn nn => jpCond nn .z
  | .callZNn nn => callCond nn .z
  | .callNn nn => callNn nn
  | .adcAN n => aluImm n .adc
  | .jpNcNn nn => jpCond nn .nc
  | .callNcNn nn => callCond nn .nc
  | .subN n => aluImm n .sub
  | .jpCNn nn => jpCond nn .c
  | .callCNn nn => callCond nn .c
  | .sbcAN n => aluImm n .sbc
  | .ldhIndNA n => ldhIndNA n
  | .andN n => aluImm n .and
  | .addSpE8 e => addSpE8 e
  | .ldIndNnA nn => ldIndNnA nn
  | .xorN n => aluImm n .xor
  | .ldhAIndN n => ldhAIndN n
  | .orN n => aluImm n .or
  | .ldHlSpE8 e => ldHlSpE8 e
  | .ldAIndNn nn => ldAIndNn nn
  | .cpN n => aluImm n .cp
  | .nop => nop
  | .ldIndBcA => ldIndBcA
  | .incBc => inc16 .bc
  | .incB => inc8 .b
  | .decB => dec8 .b
  | .rlca => rlca
  | .addHlBc => addHl .bc
  | .ldAIndBc => ldAIndBc
  | .decBc => dec16 .bc
  | .incC => inc8 .c
  | .decC => dec8 .c
  | .rrca => rrca
  | .ldIndDeA => ldIndDeA
  | .incDe => inc16 .de
  | .incD => inc8 .d
  | .decD => dec8 .d
  | .rla => rla
  | .addHlDe => addHl .de
  | .ldAIndDe => ldAIndDe
  | .decDe => dec16 .de
  | .incE => inc8 .e
  | .decE => dec8 .e
  | .rra => rra
  | .ldIndHliA => ldIndHliA
  | .incHl => inc16 .hl
  | .incH => inc8 .h
  | .decH => dec8 .h
  | .daa => daa
  | .addHlHl => addHl .hl
  | .ldAIndHli => ldAIndHli
  | .decHl => dec16 .hl
  | .incL => inc8 .l
  | .decL => dec8 .l
  | .cpl => cpl
  | .ldIndHldA => ldIndHldA
  | .incSp => inc16 .sp
  | .incIndHl => inc8 .indHl
  | .decIndHl => dec8 .indHl
  | .scf => scf
  | .addHlSp => addHl .sp
  | .ldAIndHld => ldAIndHld
  | .decSp => dec16 .sp
  | .incA => inc8 .a
  | .decA => dec8 .a
  | .ccf => ccf
  | .ldBB => ld8 .b .b (by decide)
  | .ldBC => ld8 .b .c (by decide)
  | .ldBD => ld8 .b .d (by decide)
  | .ldBE => ld8 .b .e (by decide)
  | .ldBH => ld8 .b .h (by decide)
  | .ldBL => ld8 .b .l (by decide)
  | .ldBIndHl => ld8 .b .indHl (by decide)
  | .ldBA => ld8 .b .a (by decide)
  | .ldCB => ld8 .c .b (by decide)
  | .ldCC => ld8 .c .c (by decide)
  | .ldCD => ld8 .c .d (by decide)
  | .ldCE => ld8 .c .e (by decide)
  | .ldCH => ld8 .c .h (by decide)
  | .ldCL => ld8 .c .l (by decide)
  | .ldCIndHl => ld8 .c .indHl (by decide)
  | .ldCA => ld8 .c .a (by decide)
  | .ldDB => ld8 .d .b (by decide)
  | .ldDC => ld8 .d .c (by decide)
  | .ldDD => ld8 .d .d (by decide)
  | .ldDE => ld8 .d .e (by decide)
  | .ldDH => ld8 .d .h (by decide)
  | .ldDL => ld8 .d .l (by decide)
  | .ldDIndHl => ld8 .d .indHl (by decide)
  | .ldDA => ld8 .d .a (by decide)
  | .ldEB => ld8 .e .b (by decide)
  | .ldEC => ld8 .e .c (by decide)
  | .ldED => ld8 .e .d (by decide)
  | .ldEE => ld8 .e .e (by decide)
  | .ldEH => ld8 .e .h (by decide)
  | .ldEL => ld8 .e .l (by decide)
  | .ldEIndHl => ld8 .e .indHl (by decide)
  | .ldEA => ld8 .e .a (by decide)
  | .ldHB => ld8 .h .b (by decide)
  | .ldHC => ld8 .h .c (by decide)
  | .ldHD => ld8 .h .d (by decide)
  | .ldHE => ld8 .h .e (by decide)
  | .ldHH => ld8 .h .h (by decide)
  | .ldHL => ld8 .h .l (by decide)
  | .ldHIndHl => ld8 .h .indHl (by decide)
  | .ldHA => ld8 .h .a (by decide)
  | .ldLB => ld8 .l .b (by decide)
  | .ldLC => ld8 .l .c (by decide)
  | .ldLD => ld8 .l .d (by decide)
  | .ldLE => ld8 .l .e (by decide)
  | .ldLH => ld8 .l .h (by decide)
  | .ldLL => ld8 .l .l (by decide)
  | .ldLIndHl => ld8 .l .indHl (by decide)
  | .ldLA => ld8 .l .a (by decide)
  | .ldIndHlB => ld8 .indHl .b (by decide)
  | .ldIndHlC => ld8 .indHl .c (by decide)
  | .ldIndHlD => ld8 .indHl .d (by decide)
  | .ldIndHlE => ld8 .indHl .e (by decide)
  | .ldIndHlH => ld8 .indHl .h (by decide)
  | .ldIndHlL => ld8 .indHl .l (by decide)
  | .halt => halt
  | .ldIndHlA => ld8 .indHl .a (by decide)
  | .ldAB => ld8 .a .b (by decide)
  | .ldAC => ld8 .a .c (by decide)
  | .ldAD => ld8 .a .d (by decide)
  | .ldAE => ld8 .a .e (by decide)
  | .ldAH => ld8 .a .h (by decide)
  | .ldAL => ld8 .a .l (by decide)
  | .ldAIndHl => ld8 .a .indHl (by decide)
  | .ldAA => ld8 .a .a (by decide)
  | .addAB => alu8 .add .b
  | .addAC => alu8 .add .c
  | .addAD => alu8 .add .d
  | .addAE => alu8 .add .e
  | .addAH => alu8 .add .h
  | .addAL => alu8 .add .l
  | .addAIndHl => alu8 .add .indHl
  | .addAA => alu8 .add .a
  | .adcAB => alu8 .adc .b
  | .adcAC => alu8 .adc .c
  | .adcAD => alu8 .adc .d
  | .adcAE => alu8 .adc .e
  | .adcAH => alu8 .adc .h
  | .adcAL => alu8 .adc .l
  | .adcAIndHl => alu8 .adc .indHl
  | .adcAA => alu8 .adc .a
  | .subB => alu8 .sub .b
  | .subC => alu8 .sub .c
  | .subD => alu8 .sub .d
  | .subE => alu8 .sub .e
  | .subH => alu8 .sub .h
  | .subL => alu8 .sub .l
  | .subIndHl => alu8 .sub .indHl
  | .subA => alu8 .sub .a
  | .sbcAB => alu8 .sbc .b
  | .sbcAC => alu8 .sbc .c
  | .sbcAD => alu8 .sbc .d
  | .sbcAE => alu8 .sbc .e
  | .sbcAH => alu8 .sbc .h
  | .sbcAL => alu8 .sbc .l
  | .sbcAIndHl => alu8 .sbc .indHl
  | .sbcAA => alu8 .sbc .a
  | .andB => alu8 .and .b
  | .andC => alu8 .and .c
  | .andD => alu8 .and .d
  | .andE => alu8 .and .e
  | .andH => alu8 .and .h
  | .andL => alu8 .and .l
  | .andIndHl => alu8 .and .indHl
  | .andA => alu8 .and .a
  | .xorB => alu8 .xor .b
  | .xorC => alu8 .xor .c
  | .xorD => alu8 .xor .d
  | .xorE => alu8 .xor .e
  | .xorH => alu8 .xor .h
  | .xorL => alu8 .xor .l
  | .xorIndHl => alu8 .xor .indHl
  | .xorA => alu8 .xor .a
  | .orB => alu8 .or .b
  | .orC => alu8 .or .c
  | .orD => alu8 .or .d
  | .orE => alu8 .or .e
  | .orH => alu8 .or .h
  | .orL => alu8 .or .l
  | .orIndHl => alu8 .or .indHl
  | .orA => alu8 .or .a
  | .cpB => alu8 .cp .b
  | .cpC => alu8 .cp .c
  | .cpD => alu8 .cp .d
  | .cpE => alu8 .cp .e
  | .cpH => alu8 .cp .h
  | .cpL => alu8 .cp .l
  | .cpIndHl => alu8 .cp .indHl
  | .cpA => alu8 .cp .a
  | .retNz => retCond .nz
  | .popBc => pop .bc
  | .pushBc => push .bc
  | .rst00 => rst .i0
  | .retZ => retCond .z
  | .ret => ret
  | .rst08 => rst .i1
  | .retNc => retCond .nc
  | .popDe => pop .de
  | .illegalD3 => illegal .opD3
  | .pushDe => push .de
  | .rst10 => rst .i2
  | .retC => retCond .c
  | .reti => reti
  | .illegalDB => illegal .opDB
  | .illegalDD => illegal .opDD
  | .rst18 => rst .i3
  | .popHl => pop .hl
  | .ldIndCA => ldIndCA
  | .illegalE3 => illegal .opE3
  | .illegalE4 => illegal .opE4
  | .pushHl => push .hl
  | .rst20 => rst .i4
  | .jpHl => jpHl
  | .illegalEB => illegal .opEB
  | .illegalEC => illegal .opEC
  | .illegalED => illegal .opED
  | .rst28 => rst .i5
  | .popAf => pop .af
  | .ldAIndC => ldAIndC
  | .di => di
  | .illegalF4 => illegal .opF4
  | .pushAf => push .af
  | .rst30 => rst .i6
  | .ldSpHl => ldSpHl
  | .ei => ei
  | .illegalFC => illegal .opFC
  | .illegalFD => illegal .opFD
  | .rst38 => rst .i7
  | .rlcB => rot .rlc .b
  | .rlcC => rot .rlc .c
  | .rlcD => rot .rlc .d
  | .rlcE => rot .rlc .e
  | .rlcH => rot .rlc .h
  | .rlcL => rot .rlc .l
  | .rlcIndHl => rot .rlc .indHl
  | .rlcA => rot .rlc .a
  | .rrcB => rot .rrc .b
  | .rrcC => rot .rrc .c
  | .rrcD => rot .rrc .d
  | .rrcE => rot .rrc .e
  | .rrcH => rot .rrc .h
  | .rrcL => rot .rrc .l
  | .rrcIndHl => rot .rrc .indHl
  | .rrcA => rot .rrc .a
  | .rlB => rot .rl .b
  | .rlC => rot .rl .c
  | .rlD => rot .rl .d
  | .rlE => rot .rl .e
  | .rlH => rot .rl .h
  | .rlL => rot .rl .l
  | .rlIndHl => rot .rl .indHl
  | .rlA => rot .rl .a
  | .rrB => rot .rr .b
  | .rrC => rot .rr .c
  | .rrD => rot .rr .d
  | .rrE => rot .rr .e
  | .rrH => rot .rr .h
  | .rrL => rot .rr .l
  | .rrIndHl => rot .rr .indHl
  | .rrA => rot .rr .a
  | .slaB => rot .sla .b
  | .slaC => rot .sla .c
  | .slaD => rot .sla .d
  | .slaE => rot .sla .e
  | .slaH => rot .sla .h
  | .slaL => rot .sla .l
  | .slaIndHl => rot .sla .indHl
  | .slaA => rot .sla .a
  | .sraB => rot .sra .b
  | .sraC => rot .sra .c
  | .sraD => rot .sra .d
  | .sraE => rot .sra .e
  | .sraH => rot .sra .h
  | .sraL => rot .sra .l
  | .sraIndHl => rot .sra .indHl
  | .sraA => rot .sra .a
  | .swapB => rot .swap .b
  | .swapC => rot .swap .c
  | .swapD => rot .swap .d
  | .swapE => rot .swap .e
  | .swapH => rot .swap .h
  | .swapL => rot .swap .l
  | .swapIndHl => rot .swap .indHl
  | .swapA => rot .swap .a
  | .srlB => rot .srl .b
  | .srlC => rot .srl .c
  | .srlD => rot .srl .d
  | .srlE => rot .srl .e
  | .srlH => rot .srl .h
  | .srlL => rot .srl .l
  | .srlIndHl => rot .srl .indHl
  | .srlA => rot .srl .a
  | .bit0B => bit .i0 .b
  | .bit0C => bit .i0 .c
  | .bit0D => bit .i0 .d
  | .bit0E => bit .i0 .e
  | .bit0H => bit .i0 .h
  | .bit0L => bit .i0 .l
  | .bit0IndHl => bit .i0 .indHl
  | .bit0A => bit .i0 .a
  | .bit1B => bit .i1 .b
  | .bit1C => bit .i1 .c
  | .bit1D => bit .i1 .d
  | .bit1E => bit .i1 .e
  | .bit1H => bit .i1 .h
  | .bit1L => bit .i1 .l
  | .bit1IndHl => bit .i1 .indHl
  | .bit1A => bit .i1 .a
  | .bit2B => bit .i2 .b
  | .bit2C => bit .i2 .c
  | .bit2D => bit .i2 .d
  | .bit2E => bit .i2 .e
  | .bit2H => bit .i2 .h
  | .bit2L => bit .i2 .l
  | .bit2IndHl => bit .i2 .indHl
  | .bit2A => bit .i2 .a
  | .bit3B => bit .i3 .b
  | .bit3C => bit .i3 .c
  | .bit3D => bit .i3 .d
  | .bit3E => bit .i3 .e
  | .bit3H => bit .i3 .h
  | .bit3L => bit .i3 .l
  | .bit3IndHl => bit .i3 .indHl
  | .bit3A => bit .i3 .a
  | .bit4B => bit .i4 .b
  | .bit4C => bit .i4 .c
  | .bit4D => bit .i4 .d
  | .bit4E => bit .i4 .e
  | .bit4H => bit .i4 .h
  | .bit4L => bit .i4 .l
  | .bit4IndHl => bit .i4 .indHl
  | .bit4A => bit .i4 .a
  | .bit5B => bit .i5 .b
  | .bit5C => bit .i5 .c
  | .bit5D => bit .i5 .d
  | .bit5E => bit .i5 .e
  | .bit5H => bit .i5 .h
  | .bit5L => bit .i5 .l
  | .bit5IndHl => bit .i5 .indHl
  | .bit5A => bit .i5 .a
  | .bit6B => bit .i6 .b
  | .bit6C => bit .i6 .c
  | .bit6D => bit .i6 .d
  | .bit6E => bit .i6 .e
  | .bit6H => bit .i6 .h
  | .bit6L => bit .i6 .l
  | .bit6IndHl => bit .i6 .indHl
  | .bit6A => bit .i6 .a
  | .bit7B => bit .i7 .b
  | .bit7C => bit .i7 .c
  | .bit7D => bit .i7 .d
  | .bit7E => bit .i7 .e
  | .bit7H => bit .i7 .h
  | .bit7L => bit .i7 .l
  | .bit7IndHl => bit .i7 .indHl
  | .bit7A => bit .i7 .a
  | .res0B => res .i0 .b
  | .res0C => res .i0 .c
  | .res0D => res .i0 .d
  | .res0E => res .i0 .e
  | .res0H => res .i0 .h
  | .res0L => res .i0 .l
  | .res0IndHl => res .i0 .indHl
  | .res0A => res .i0 .a
  | .res1B => res .i1 .b
  | .res1C => res .i1 .c
  | .res1D => res .i1 .d
  | .res1E => res .i1 .e
  | .res1H => res .i1 .h
  | .res1L => res .i1 .l
  | .res1IndHl => res .i1 .indHl
  | .res1A => res .i1 .a
  | .res2B => res .i2 .b
  | .res2C => res .i2 .c
  | .res2D => res .i2 .d
  | .res2E => res .i2 .e
  | .res2H => res .i2 .h
  | .res2L => res .i2 .l
  | .res2IndHl => res .i2 .indHl
  | .res2A => res .i2 .a
  | .res3B => res .i3 .b
  | .res3C => res .i3 .c
  | .res3D => res .i3 .d
  | .res3E => res .i3 .e
  | .res3H => res .i3 .h
  | .res3L => res .i3 .l
  | .res3IndHl => res .i3 .indHl
  | .res3A => res .i3 .a
  | .res4B => res .i4 .b
  | .res4C => res .i4 .c
  | .res4D => res .i4 .d
  | .res4E => res .i4 .e
  | .res4H => res .i4 .h
  | .res4L => res .i4 .l
  | .res4IndHl => res .i4 .indHl
  | .res4A => res .i4 .a
  | .res5B => res .i5 .b
  | .res5C => res .i5 .c
  | .res5D => res .i5 .d
  | .res5E => res .i5 .e
  | .res5H => res .i5 .h
  | .res5L => res .i5 .l
  | .res5IndHl => res .i5 .indHl
  | .res5A => res .i5 .a
  | .res6B => res .i6 .b
  | .res6C => res .i6 .c
  | .res6D => res .i6 .d
  | .res6E => res .i6 .e
  | .res6H => res .i6 .h
  | .res6L => res .i6 .l
  | .res6IndHl => res .i6 .indHl
  | .res6A => res .i6 .a
  | .res7B => res .i7 .b
  | .res7C => res .i7 .c
  | .res7D => res .i7 .d
  | .res7E => res .i7 .e
  | .res7H => res .i7 .h
  | .res7L => res .i7 .l
  | .res7IndHl => res .i7 .indHl
  | .res7A => res .i7 .a
  | .set0B => set .i0 .b
  | .set0C => set .i0 .c
  | .set0D => set .i0 .d
  | .set0E => set .i0 .e
  | .set0H => set .i0 .h
  | .set0L => set .i0 .l
  | .set0IndHl => set .i0 .indHl
  | .set0A => set .i0 .a
  | .set1B => set .i1 .b
  | .set1C => set .i1 .c
  | .set1D => set .i1 .d
  | .set1E => set .i1 .e
  | .set1H => set .i1 .h
  | .set1L => set .i1 .l
  | .set1IndHl => set .i1 .indHl
  | .set1A => set .i1 .a
  | .set2B => set .i2 .b
  | .set2C => set .i2 .c
  | .set2D => set .i2 .d
  | .set2E => set .i2 .e
  | .set2H => set .i2 .h
  | .set2L => set .i2 .l
  | .set2IndHl => set .i2 .indHl
  | .set2A => set .i2 .a
  | .set3B => set .i3 .b
  | .set3C => set .i3 .c
  | .set3D => set .i3 .d
  | .set3E => set .i3 .e
  | .set3H => set .i3 .h
  | .set3L => set .i3 .l
  | .set3IndHl => set .i3 .indHl
  | .set3A => set .i3 .a
  | .set4B => set .i4 .b
  | .set4C => set .i4 .c
  | .set4D => set .i4 .d
  | .set4E => set .i4 .e
  | .set4H => set .i4 .h
  | .set4L => set .i4 .l
  | .set4IndHl => set .i4 .indHl
  | .set4A => set .i4 .a
  | .set5B => set .i5 .b
  | .set5C => set .i5 .c
  | .set5D => set .i5 .d
  | .set5E => set .i5 .e
  | .set5H => set .i5 .h
  | .set5L => set .i5 .l
  | .set5IndHl => set .i5 .indHl
  | .set5A => set .i5 .a
  | .set6B => set .i6 .b
  | .set6C => set .i6 .c
  | .set6D => set .i6 .d
  | .set6E => set .i6 .e
  | .set6H => set .i6 .h
  | .set6L => set .i6 .l
  | .set6IndHl => set .i6 .indHl
  | .set6A => set .i6 .a
  | .set7B => set .i7 .b
  | .set7C => set .i7 .c
  | .set7D => set .i7 .d
  | .set7E => set .i7 .e
  | .set7H => set .i7 .h
  | .set7L => set .i7 .l
  | .set7IndHl => set .i7 .indHl
  | .set7A => set .i7 .a

end Sys2Proof
end

