-- ==== Sys2Proof/Laws/Exec.lean ====
section
/-! SUPPORT. What each instruction of a row family does: `exec` answers one shared operation. Every instruction
answers a next state. -/

namespace Sys2Proof.Machine

theorem exec_ld8 (dst src : Operand8) (s : State) (h : ¬(dst = .indHl ∧ src = .indHl)) :
    exec (Instr.ld8 dst src) s = .next (load8 dst src s) := by
  cases dst <;> cases src <;> first | rfl | exact absurd ⟨rfl, rfl⟩ h

theorem exec_ldImm8 (n : Byte) (r : Operand8) (s : State) : exec (Instr.ldImm8 n r) s = .next (loadImm8 r n s) := by
  cases r <;> rfl

theorem exec_alu8 (op : AluOp) (r : Operand8) (s : State) : exec (Instr.alu8 op r) s = .next (aluOperand op r s) := by
  cases op <;> cases r <;> rfl

theorem exec_aluImm (n : Byte) (op : AluOp) (s : State) : exec (Instr.aluImm n op) s = .next (aluImm8 op n s) := by
  cases op <;> rfl

theorem exec_inc8 (r : Operand8) (s : State) : exec (Instr.inc8 r) s = .next (incOperand r s) := by cases r <;> rfl

theorem exec_dec8 (r : Operand8) (s : State) : exec (Instr.dec8 r) s = .next (decOperand r s) := by cases r <;> rfl

theorem exec_ldImm16 (nn : Word) (p : Pair) (s : State) : exec (Instr.ldImm16 nn p) s = .next (loadImm16 p nn s) := by
  cases p <;> rfl

theorem exec_push (p : StackPair) (s : State) : exec (Instr.push p) s = .next (pushPair p s) := by cases p <;> rfl

theorem exec_pop (p : StackPair) (s : State) : exec (Instr.pop p) s = .next (popPair p s) := by cases p <;> rfl

theorem exec_addHl (p : Pair) (s : State) : exec (Instr.addHl p) s = .next (addHlPair p s) := by cases p <;> rfl

theorem exec_inc16 (p : Pair) (s : State) : exec (Instr.inc16 p) s = .next (incPair p s) := by cases p <;> rfl

theorem exec_dec16 (p : Pair) (s : State) : exec (Instr.dec16 p) s = .next (decPair p s) := by cases p <;> rfl

theorem exec_jrCond (e : Byte) (cc : Cond) (s : State) : exec (Instr.jrCond e cc) s = .next (jumpRelIf cc e s) := by
  cases cc <;> rfl

theorem exec_jpCond (nn : Word) (cc : Cond) (s : State) : exec (Instr.jpCond nn cc) s = .next (jumpIf cc nn s) := by
  cases cc <;> rfl

theorem exec_callCond (nn : Word) (cc : Cond) (s : State) : exec (Instr.callCond nn cc) s = .next (callIf cc nn s) := by
  cases cc <;> rfl

theorem exec_retCond (cc : Cond) (s : State) : exec (Instr.retCond cc) s = .next (retIf cc s) := by cases cc <;> rfl

theorem exec_rst (y : Index8) (s : State) : exec (Instr.rst y) s = .next (restart y s) := by cases y <;> rfl

theorem exec_rot (op : RotOp) (r : Operand8) (s : State) : exec (Instr.rot op r) s = .next (rotOperand op r s) := by
  cases op <;> cases r <;> rfl

theorem exec_bit (b : Index8) (r : Operand8) (s : State) : exec (Instr.bit b r) s = .next (bitOperand b r s) := by
  cases b <;> cases r <;> rfl

theorem exec_res (b : Index8) (r : Operand8) (s : State) : exec (Instr.res b r) s = .next (resOperand b r s) := by
  cases b <;> cases r <;> rfl

theorem exec_set (b : Index8) (r : Operand8) (s : State) : exec (Instr.set b r) s = .next (setOperand b r s) := by
  cases b <;> cases r <;> rfl

/-- R350 under the decided `IllegalOpMode = Nop`. -/
theorem exec_illegal (k : IllegalOp) (s : State) : exec (Instr.illegal k) s = .next (s.withCycles 4) := by
  cases k <;> rfl

/-- R520: no instruction stops the machine. -/
theorem exec_next (i : Instr) (s : State) : ∃ t, exec i s = .next t := by
  refine Instr.byFamily (P := fun i => ∃ t, exec i s = .next t)
    (fun dst r h => ⟨_, exec_ld8 dst r s h⟩) (fun n r => ⟨_, exec_ldImm8 n r s⟩) (fun op r => ⟨_, exec_alu8 op r s⟩)
    (fun n op => ⟨_, exec_aluImm n op s⟩) (fun r => ⟨_, exec_inc8 r s⟩) (fun r => ⟨_, exec_dec8 r s⟩)
    (fun nn p => ⟨_, exec_ldImm16 nn p s⟩) (fun p => ⟨_, exec_push p s⟩) (fun p => ⟨_, exec_pop p s⟩)
    (fun p => ⟨_, exec_addHl p s⟩) (fun p => ⟨_, exec_inc16 p s⟩) (fun p => ⟨_, exec_dec16 p s⟩)
    (fun e cc => ⟨_, exec_jrCond e cc s⟩) (fun nn cc => ⟨_, exec_jpCond nn cc s⟩)
    (fun nn cc => ⟨_, exec_callCond nn cc s⟩) (fun cc => ⟨_, exec_retCond cc s⟩) (fun y => ⟨_, exec_rst y s⟩)
    (fun op r => ⟨_, exec_rot op r s⟩) (fun b r => ⟨_, exec_bit b r s⟩) (fun b r => ⟨_, exec_res b r s⟩)
    (fun b r => ⟨_, exec_set b r s⟩) (fun k => ⟨_, exec_illegal k s⟩)
    ?_ ?_ ?_ ?_ ?_ ?_ ?_ ?_ ?_ ?_ ?_ ?_ ?_ ?_ ?_ ?_ ?_ ?_ ?_ ?_ ?_ ?_ ?_ ?_ ?_ ?_ ?_ ?_ ?_ ?_ ?_ ?_ ?_ ?_ ?_ ?_ ?_ i <;>
    intros <;> exact ⟨_, rfl⟩

end Sys2Proof.Machine
end

