-- ==== Sys2Proof/Laws/Effects.lean ====
section
/-! SUPPORT. How the terms of the claims follow from what a meaning does: a state whose only change is in the CPU
registers, and a state that one or two bus writes leave. -/

namespace Sys2Proof.Machine

theorem sameDevices_setCpu (s : State) (c : Cpu) (n : Nat) : SameDevices s ((s.setCpu c).withCycles n) :=
  ⟨rfl, rfl, rfl, rfl, rfl, rfl⟩

theorem sameReads_setCpu (s : State) (c : Cpu) (n : Nat) : SameReads s ((s.setCpu c).withCycles n) :=
  fun a => by simp

/-- A meaning that only writes registers changes nothing else. -/
theorem regOnly_setCpu {changed : List Reg} {s : State} {c : Cpu} (n : Nat)
    (hk : Keeps changed s ((s.setCpu c).withCycles n)) (hc : SameControl s ((s.setCpu c).withCycles n)) :
    RegOnly changed s ((s.setCpu c).withCycles n) :=
  ⟨hk, hc, sameDevices_setCpu s c n, sameReads_setCpu s c n⟩

/-- A meaning that only costs cycles changes nothing. -/
theorem regOnly_withCycles (changed : List Reg) (s : State) (n : Nat) : RegOnly changed s (s.withCycles n) :=
  regOnly_setCpu (c := s.cpu) n (fun r _ => by cases r <;> rfl) ⟨rfl, rfl, rfl, rfl, rfl⟩

/-- One bus write, with any registers and cycle count. -/
theorem stores_one (s : State) (a : Word) (v : Byte) (c : Cpu) (n : Nat) :
    Stores [(a, v)] s (((memWrite s a v).setCpu c).withCycles n) := by
  refine ⟨⟨rfl, rfl, rfl, rfl, rfl, rfl⟩, fun b hb => ?_⟩
  simpa using memRead_memWrite_of_not_affects s v (hb (a, v) (by simp))

/-- Two bus writes, the first of the list first. -/
theorem stores_two (s : State) (a b : Word) (v w : Byte) (c : Cpu) (n : Nat) :
    Stores [(a, v), (b, w)] s (((memWrite (memWrite s a v) b w).setCpu c).withCycles n) := by
  refine ⟨⟨rfl, rfl, rfl, rfl, rfl, rfl⟩, fun x hx => ?_⟩
  have h1 := memRead_memWrite_of_not_affects s v (hx (a, v) (by simp))
  have h2 := memRead_memWrite_of_not_affects (memWrite s a v) w (hx (b, w) (by simp))
  simp [h1, h2]

theorem withCycles_eq_setCpu (s : State) (n : Nat) : s.withCycles n = (s.setCpu s.cpu).withCycles n := rfl

/-- A bus write keeps every register and control bit. -/
theorem keeps_memWrite (changed : List Reg) (s : State) (a : Word) (v : Byte) (n : Nat) :
    Keeps changed s ((memWrite s a v).withCycles n) := fun r _ => by cases r <;> simp [Reg.value]

theorem sameControl_memWrite (s : State) (a : Word) (v : Byte) (n : Nat) :
    SameControl s ((memWrite s a v).withCycles n) := by simp [SameControl]

theorem stores_memWrite (s : State) (a : Word) (v : Byte) (n : Nat) : Stores [(a, v)] s ((memWrite s a v).withCycles n) :=
  stores_one s a v (memWrite s a v).cpu n

theorem sp_sub_two (v : Word) : v - 1 - 1 = v - 2 := by
  rw [BitVec.sub_sub]; rfl

/-- What a push leaves: two bus writes, and SP two lower. -/
theorem push16_eq' (v : Word) (s : State) :
    push16 v s = (memWrite (memWrite s (s.cpu.sp - 1) (hiByte v)) (s.cpu.sp - 2) (loByte v)).setCpu
      { s.cpu with sp := s.cpu.sp - 2 } := by
  rw [push16_eq, sp_sub_two]

@[simp] theorem push16_cpu (v : Word) (s : State) : (push16 v s).cpu = { s.cpu with sp := s.cpu.sp - 2 } := by
  rw [push16_eq']; rfl

/-- R31: setting the flags leaves F clean. -/
theorem flagsClean_packFlags {s : State} {z n h c : Bool} (hf : s.cpu.f = packFlags z n h c) : FlagsClean s := by
  unfold FlagsClean; rw [hf]; simp

end Sys2Proof.Machine
end

