-- ==== Sys2Proof/Laws/Invariant.lean ====
section
/-! SUPPORT. Each part of the invariant under the operations a step is made of: a bus write, and the three device
ticks. -/

namespace Sys2Proof.Machine

/-! ## A bus write -/

/-- A write to an IO byte outside JOYP and the APU changes only IO and OAM. -/
theorem ioWrite_rest (k : Nat) (v : Byte) (s : State) :
    ioWrite k v s = { s with mem := { s.mem with io := (ioWrite k v s).mem.io, oam := (ioWrite k v s).mem.oam } } := by
  unfold ioWrite
  split_ifs
  · rfl
  · rfl
  · have h := oamDma_eq v s
    generalize oamDma v s = t at *
    rw [h]
    rfl
  · rfl

theorem outputOk_memWrite {s : State} (h : OutputOk s) (a : Word) (v : Byte) : OutputOk (memWrite s a v) := by
  refine h.congr (by rw [memWrite_ppu]) ?_ ?_ <;>
  · unfold memWrite
    cases region a with
    | apu k =>
      simp only [writeRegion, apuWrite]
      split
      · rfl
      · generalize ApuReg.ofOffset k = r; cases r <;> rfl
    | io k => simp only [writeRegion]; rw [ioWrite_rest]
    | _ => rfl

/-- What a bus write leaves of the APU's clocks. -/
theorem memWrite_clocks (s : State) (a : Word) (v : Byte) :
    (memWrite s a v).apu.sampleCycles = s.apu.sampleCycles ∧
      (memWrite s a v).apu.frameSequencerCycles = s.apu.frameSequencerCycles := by
  unfold memWrite
  cases region a with
  | apu k =>
    simp only [writeRegion, apuWrite]
    split
    · exact ⟨rfl, rfl⟩
    · generalize ApuReg.ofOffset k = r; cases r <;> exact ⟨rfl, rfl⟩
  | io k => simp only [writeRegion]; rw [ioWrite_rest]; exact ⟨rfl, rfl⟩
  | _ => exact ⟨rfl, rfl⟩

theorem clocksOk_memWrite {s : State} (h : ClocksOk s) (a : Word) (v : Byte) : ClocksOk (memWrite s a v) := by
  unfold ClocksOk at *
  rw [memWrite_timer, memWrite_ppu, (memWrite_clocks s a v).1, (memWrite_clocks s a v).2]
  exact h

theorem statTop_memWrite {s : State} (h : StatTop s) (a : Word) (v : Byte) : StatTop (memWrite s a v) := by
  unfold StatTop memWrite at *
  cases hr : region a with
  | apu k =>
    have hk := region_apu hr
    have hne : Io.stat ≠ k := by simp only [Io.stat]; omega
    simp only [writeRegion, apuWrite]
    split
    · exact h
    · show bitOf ((s.setIo k v).io Io.stat) 7 = true
      rw [State.io_setIo, if_neg hne]; exact h
  | io k =>
    simp only [writeRegion, ioWrite]
    split_ifs with h1 h2 h3
    · simpa using h
    · rw [State.io_setIo, if_pos rfl]
      simp only [bitOf, statWritten] at *
      simpa using h
    · have e : (oamDma v s).io Io.stat = s.io Io.stat := by
        have h' := oamDma_eq v s
        generalize oamDma v s = t at *
        rw [h']
        show (s.setIo Io.dma v).io Io.stat = _
        simp
      rw [e]; exact h
    · rw [State.io_setIo, if_neg (Ne.symm h2)]; exact h
  | _ => exact h

theorem zeroExtend_ne {n : Nat} (hn : n ≤ 9) (b : BitVec n) (hb : b ≠ 0#n) : b.zeroExtend 9 ≠ 0#9 := fun h => hb <| by
  apply BitVec.eq_of_toNat_eq
  have h1 := congrArg BitVec.toNat h
  have h2 : b.toNat < 2 ^ 9 := lt_of_lt_of_le b.isLt (Nat.pow_le_pow_right (by decide) hn)
  have h3 : b.toNat % 2 ^ 9 = 0 := by simpa [BitVec.toNat_setWidth] using h1
  rw [Nat.mod_eq_of_lt h2] at h3
  exact h3

theorem and_or_low5 (r : BitVec 9) (l : BitVec 5) (hl : l ≠ 0) :
    (((r &&& 0x60#9) ||| l.zeroExtend 9) &&& 0x1F#9) ≠ 0#9 := by
  have e : ((r &&& 0x60#9) ||| l.zeroExtend 9) &&& 0x1F#9 = l.zeroExtend 9 := by
    ext i hi
    interval_cases i <;> simp
  rw [e]
  exact zeroExtend_ne (by decide) l hl

theorem and_or_high2 (r : BitVec 9) (t : BitVec 2) (hr : r &&& 0x1F#9 ≠ 0#9) :
    (((r &&& 0x1F#9) ||| (t.zeroExtend 9 <<< 5)) &&& 0x1F#9) ≠ 0#9 := by
  have e : ((r &&& 0x1F#9) ||| (t.zeroExtend 9 <<< 5)) &&& 0x1F#9 = r &&& 0x1F#9 := by
    ext i hi
    interval_cases i <;> simp
  rw [e]
  exact hr

/-- R106, R107, R109: a mapper write keeps the bank rules. -/
theorem romBankOk_cart_write {s : State} (h : RomBankOk s) (a : Nat) (v : Byte) :
    RomBankOk { s with cart := s.cart.write a v } := by
  have hm := (s.cart.write_frame a v).2.2.2.2.1
  unfold RomBankOk at *
  dsimp only
  rw [hm]
  cases hc : s.cart.mapper with
  | none => trivial
  | mbc5 => trivial
  | mbc1 =>
    rw [hc] at h
    simp only at h ⊢
    unfold Cartridge.write
    rw [hc]
    dsimp only
    unfold Cartridge.mbc1Write Cartridge.mbc1Upper
    split_ifs
    · exact h
    · refine and_or_low5 _ _ ?_
      split
      · decide
      · assumption
    · exact h
    · exact and_or_high2 _ _ h
    · exact h
  | mbc3 =>
    rw [hc] at h
    simp only at h ⊢
    unfold Cartridge.write
    rw [hc]
    dsimp only
    unfold Cartridge.mbc3Write
    split_ifs
    · exact h
    · refine zeroExtend_ne (n := 7) (by decide) _ ?_
      split
      · decide
      · assumption
    · exact h
    · exact h

theorem RomBankOk.congr {s t : State} (h : RomBankOk s) (hm : t.cart.mapper = s.cart.mapper)
    (hb : t.cart.romBank = s.cart.romBank) : RomBankOk t := by
  unfold RomBankOk at *
  rw [hm, hb]
  exact h

theorem romBankOk_memWrite {s : State} (h : RomBankOk s) (a : Word) (v : Byte) : RomBankOk (memWrite s a v) := by
  unfold memWrite
  cases region a with
  | rom i => exact romBankOk_cart_write h i v
  | cartRam i => exact h.congr (by simp only [writeRegion]; rw [s.cart.ramWrite_frame i v]) (by simp only [writeRegion]; rw [s.cart.ramWrite_frame i v])
  | apu k => simp only [writeRegion, apuWrite]; split <;> exact h
  | io k => simp only [writeRegion]; rw [ioWrite_rest]; exact h
  | _ => exact h

/-! ## The channels (R485) -/

/-- An enabled channel has length ticks left, and the counter is at most its maximum. -/
def LengthOk (enabled : Bool) (counter max : Nat) : Prop := (enabled = true → 0 < counter) ∧ counter ≤ max

theorem channelsOk_iff (s : State) : ChannelsOk s ↔
    LengthOk s.apu.ch1.enabled s.apu.ch1.lengthCounter 64 ∧ LengthOk s.apu.ch2.enabled s.apu.ch2.lengthCounter 64 ∧
      LengthOk s.apu.ch3.enabled s.apu.ch3.lengthCounter 256 ∧ LengthOk s.apu.ch4.enabled s.apu.ch4.lengthCounter 64 := by
  unfold ChannelsOk LengthOk
  tauto

theorem LengthOk.and {e : Bool} {c m : Nat} (h : LengthOk e c m) (x : Bool) : LengthOk (e && x) c m :=
  ⟨fun he => h.1 (by simp only [Bool.and_eq_true] at he; exact he.1), h.2⟩

theorem LengthOk.pos {c m : Nat} (e : Bool) (h0 : 0 < c) (hm : c ≤ m) : LengthOk e c m := ⟨fun _ => h0, hm⟩

/-- R479: a trigger loads the maximum into a counter of 0. -/
theorem LengthOk.trigger {e : Bool} {c m : Nat} (h : LengthOk e c m) (e' : Bool) (hm : 0 < m) :
    LengthOk e' (if c = 0 then m else c) m := by
  have := h.2
  split
  · exact LengthOk.pos _ hm (Nat.le_refl _)
  · exact LengthOk.pos _ (by omega) this

theorem LengthOk.step {e : Bool} {c m : Nat} (h : LengthOk e c m) (en : Bool) :
    LengthOk (lengthStep en e c).1 (lengthStep en e c).2 m := by
  have := h.2
  unfold lengthStep
  split
  · refine ⟨fun he => ?_, by show c - 1 ≤ m; omega⟩
    simp only [Bool.and_eq_true, bne_iff_ne, ne_eq] at he
    omega
  · exact h

theorem lengthLoad64_bounds (v : Byte) : 0 < lengthLoad64 v ∧ lengthLoad64 v ≤ 64 := by
  unfold lengthLoad64
  have : (v &&& 0x3F#8).toNat ≤ 63 := by rw [BitVec.toNat_and]; exact Nat.and_le_right
  omega

theorem lengthLoad256_bounds (v : Byte) : 0 < lengthLoad256 v ∧ lengthLoad256 v ≤ 256 := by
  unfold lengthLoad256
  have := v.isLt
  omega

/-- The channels' part of the invariant, of an APU. -/
def Apu.LengthsOk (u : Apu) : Prop :=
  LengthOk u.ch1.enabled u.ch1.lengthCounter 64 ∧ LengthOk u.ch2.enabled u.ch2.lengthCounter 64 ∧
    LengthOk u.ch3.enabled u.ch3.lengthCounter 256 ∧ LengthOk u.ch4.enabled u.ch4.lengthCounter 64

theorem lengthsOk_writeNr52 {u : Apu} (h : u.LengthsOk) (v : Byte) : (u.writeNr52 v).LengthsOk :=
  ⟨h.1.and _, h.2.1.and _, h.2.2.1.and _, h.2.2.2.and _⟩

theorem lengthOk_square_control {ch : Square} (h : LengthOk ch.enabled ch.lengthCounter 64) (m : Bool) (n v : Byte) :
    LengthOk (ch.writeControl m n v).enabled (ch.writeControl m n v).lengthCounter 64 := by
  unfold Square.writeControl
  dsimp only
  split
  · exact h.trigger _ (by decide)
  · exact h

theorem lengthsOk_writeEffect {u : Apu} (h : u.LengthsOk) (a b c : Byte) (r : ApuReg) (v : Byte) :
    (u.writeEffect a b c r v).LengthsOk := by
  obtain ⟨h1, h2, h3, h4⟩ := h
  have l64 := lengthLoad64_bounds v
  have l256 := lengthLoad256_bounds v
  cases r with
  | nr11 => exact ⟨LengthOk.pos _ l64.1 l64.2, h2, h3, h4⟩
  | nr12 => exact ⟨h1.and _, h2, h3, h4⟩
  | nr14 => exact ⟨lengthOk_square_control h1 _ _ _, h2, h3, h4⟩
  | nr21 => exact ⟨h1, LengthOk.pos _ l64.1 l64.2, h3, h4⟩
  | nr22 => exact ⟨h1, h2.and _, h3, h4⟩
  | nr24 => exact ⟨h1, lengthOk_square_control h2 _ _ _, h3, h4⟩
  | nr30 => exact ⟨h1, h2, h3.and _, h4⟩
  | nr31 => exact ⟨h1, h2, LengthOk.pos _ l256.1 l256.2, h4⟩
  | nr34 =>
    refine ⟨h1, h2, ?_, h4⟩
    show LengthOk (u.ch3.writeControl u.masterEnable v).enabled (u.ch3.writeControl u.masterEnable v).lengthCounter 256
    unfold Wave.writeControl
    dsimp only
    split
    · exact h3.trigger _ (by decide)
    · exact h3
  | nr41 => exact ⟨h1, h2, h3, LengthOk.pos _ l64.1 l64.2⟩
  | nr42 => exact ⟨h1, h2, h3, h4.and _⟩
  | nr44 =>
    refine ⟨h1, h2, h3, ?_⟩
    show LengthOk (u.ch4.writeControl u.masterEnable c v).enabled (u.ch4.writeControl u.masterEnable c v).lengthCounter 64
    unfold Noise.writeControl
    split
    · exact h4.trigger _ (by decide)
    · exact h4
  | nr10 => exact ⟨h1, h2, h3, h4⟩
  | nr13 => exact ⟨h1, h2, h3, h4⟩
  | nr23 => exact ⟨h1, h2, h3, h4⟩
  | nr32 => exact ⟨h1, h2, h3, h4⟩
  | nr33 => exact ⟨h1, h2, h3, h4⟩
  | nr43 => exact ⟨h1, h2, h3, h4⟩
  | stored => exact ⟨h1, h2, h3, h4⟩

theorem channelsOk_memWrite {s : State} (h : ChannelsOk s) (a : Word) (v : Byte) : ChannelsOk (memWrite s a v) := by
  rw [channelsOk_iff] at *
  have h' : s.apu.LengthsOk := h
  unfold memWrite
  cases region a with
  | apu k =>
    simp only [writeRegion, apuWrite]
    split
    · exact lengthsOk_writeNr52 h' v
    · exact lengthsOk_writeEffect h' _ _ _ _ v
  | io k => simp only [writeRegion]; rw [ioWrite_rest]; exact h
  | _ => exact h

/-! ## The APU tick -/

theorem lengthsOk_lengthTick {s : State} (h : s.apu.LengthsOk) : (lengthTick s).apu.LengthsOk :=
  ⟨h.1.step _, h.2.1.step _, h.2.2.1.step _, h.2.2.2.step _⟩

theorem lengthsOk_sweepTick {u : Apu} (h : u.LengthsOk) : (sweepTick u).LengthsOk := by
  unfold sweepTick
  dsimp only
  split_ifs
  · exact h
  · exact h
  · exact ⟨⟨fun he => absurd he (by simp), h.1.2⟩, h.2⟩
  · exact h
  · exact h

theorem lengthsOk_frameSequencerStep {s : State} (h : s.apu.LengthsOk) : (frameSequencerStep s).apu.LengthsOk := by
  have h0 : (if s.apu.frameSequencerStep.toNat % 2 = 0 then lengthTick s else s).apu.LengthsOk := by
    split
    · exact lengthsOk_lengthTick h
    · exact h
  have h1 : ∀ u : Apu, u.LengthsOk → ∀ p : Prop, ∀ [Decidable p], (if p then sweepTick u else u).LengthsOk :=
    fun u hu p _ => by split; exacts [lengthsOk_sweepTick hu, hu]
  have h2 : ∀ u : Apu, u.LengthsOk → ∀ p : Prop, ∀ [Decidable p], (if p then envelopeTick u else u).LengthsOk :=
    fun u hu p _ => by split; exacts [hu, hu]
  unfold frameSequencerStep
  dsimp only
  exact h2 _ (h1 _ h0 _) _

theorem channelsOk_apuTick {s : State} (h : ChannelsOk s) (n : Nat) : ChannelsOk (apuTick n s) := by
  rw [channelsOk_iff] at *
  have h' : s.apu.LengthsOk := h
  unfold apuTick sampleTick frameSequencerTick
  dsimp only
  refine applyTimes_induct (P := fun t : State => t.apu.LengthsOk) (fun x hx => ?_) _ ?_
  · show (Apu.writeFrame _ _ x.apu).LengthsOk
    unfold Apu.writeFrame
    split <;> exact hx
  · refine (applyTimes_induct (P := fun t : State => t.apu.LengthsOk) (fun x hx => ?_) _ ?_ :)
    · exact lengthsOk_frameSequencerStep hx
    · exact h'

/-! ## The three ticks together -/

/-- The part of the invariant that the CPU registers have no part in. -/
structure DevicesOk (s : State) : Prop where
  memory : MemoryOk s
  output : OutputOk s
  romBank : RomBankOk s
  statTop : StatTop s
  channels : ChannelsOk s
  clocks : ClocksOk s

theorem inv_iff (s : State) : Inv s ↔ FlagsClean s ∧ ControlClean s ∧ DevicesOk s :=
  ⟨fun ⟨a, b, c, d, e, f, g, h⟩ => ⟨a, b, c, d, e, f, g, h⟩, fun ⟨a, b, c, d, e, f, g, h⟩ => ⟨a, b, c, d, e, f, g, h⟩⟩

theorem DevicesOk.setCpu {s : State} (h : DevicesOk s) (c : Cpu) : DevicesOk (s.setCpu c) :=
  ⟨h.memory, h.output, h.romBank, h.statTop, h.channels, h.clocks⟩

theorem DevicesOk.withCycles {s : State} (h : DevicesOk s) (n : Nat) : DevicesOk (s.withCycles n) :=
  ⟨h.memory, h.output, h.romBank, h.statTop, h.channels, h.clocks⟩

theorem DevicesOk.setIntFlag {s : State} (h : DevicesOk s) (v : Byte) : DevicesOk (s.setIo Io.intFlag v) :=
  ⟨h.memory.setIo (by decide) v, h.output, h.romBank, statTop_ppuKeeps.intFlag s v h.statTop, h.channels, h.clocks⟩

theorem devicesOk_memWrite {s : State} (h : DevicesOk s) (a : Word) (v : Byte) : DevicesOk (memWrite s a v) :=
  ⟨memoryOk_memWrite h.memory a v, outputOk_memWrite h.output a v, romBankOk_memWrite h.romBank a v,
    statTop_memWrite h.statTop a v, channelsOk_memWrite h.channels a v, clocksOk_memWrite h.clocks a v⟩

theorem devicesOk_push16 {s : State} (h : DevicesOk s) (v : Word) : DevicesOk (push16 v s) := by
  rw [push16_eq]
  exact (devicesOk_memWrite (devicesOk_memWrite h _ _) _ _).setCpu _

theorem devicesOk_ppuTick {s : State} (h : DevicesOk s) (n : Nat) : DevicesOk (ppuTick n s) := by
  have f := ppuTick_frame n s
  refine ⟨memoryOk_ppuKeeps.tick n h.memory, outputOk_ppuKeeps.tick n h.output,
    h.romBank.congr (by rw [f.cart]) (by rw [f.cart]), statTop_ppuKeeps.tick n h.statTop, ?_, ?_⟩
  · have := h.channels; unfold ChannelsOk at *; rw [f.apu]; exact this
  · have hc := h.clocks
    have hs := ppuTick_scanline n s
    unfold ClocksOk at *
    rw [f.timer, f.apu]
    exact ⟨hc.1, hc.2.1, hc.2.2.1, hc.2.2.2.1, hs⟩

theorem devicesOk_timerTick {s : State} (h : DevicesOk s) (n : Nat) : DevicesOk (timerTick n s) := by
  have f := timerTick_frame n s
  refine ⟨memoryOk_timerKeeps.tick n h.memory, h.output.congr (by rw [f.ppu]) (by rw [f.apu]) (by rw [f.apu]),
    h.romBank.congr (by rw [f.cart]) (by rw [f.cart]), ?_, ?_, ?_⟩
  · have := h.statTop
    unfold StatTop at *
    rw [f.io Io.stat (by decide) (by decide) (by decide)]; exact this
  · have := h.channels; unfold ChannelsOk at *; rw [f.apu]; exact this
  · have hc := h.clocks
    have ht := timerTick_timer n s
    have hp := timerPeriod_bounds (s.io Io.tac)
    unfold ClocksOk at *
    rw [f.apu, f.ppu, ht.1, ht.2]
    refine ⟨Nat.mod_lt _ (by decide), ?_, hc.2.2⟩
    split
    · exact lt_of_lt_of_le (Nat.mod_lt _ (by omega)) hp.2
    · exact hc.2.1

theorem devicesOk_apuTick {s : State} (h : DevicesOk s) (n : Nat) : DevicesOk (apuTick n s) := by
  have f := apuTick_frame n s
  have hk := apuTick_clocks n s
  refine ⟨?_, outputOk_apuTick h.output n, ?_, ?_, channelsOk_apuTick h.channels n, ?_⟩
  · rw [f.eq]; exact h.memory
  · rw [f.eq]; exact h.romBank
  · rw [f.eq]; exact h.statTop
  · have hc := h.clocks
    unfold ClocksOk at *
    rw [hk.1, hk.2]
    refine ⟨by rw [f.eq]; exact hc.1, by rw [f.eq]; exact hc.2.1, Nat.mod_lt _ (by decide), Nat.mod_lt _ (by decide),
      by rw [f.eq]; exact hc.2.2.2.2⟩

/-- The catch-up of R530 keeps the devices' part of the invariant. -/
theorem devicesOk_tickDevices {s : State} (h : DevicesOk s) : DevicesOk (tickDevices s) :=
  devicesOk_apuTick (devicesOk_timerTick (devicesOk_ppuTick h _) _) _

/-- The catch-up of R530 changes no register. -/
theorem tickDevices_cpu (s : State) : (tickDevices s).cpu = s.cpu := by
  unfold tickDevices
  rw [(apuTick_frame _ _).eq]
  exact (timerTick_frame _ _).cpu.trans (ppuTick_frame _ _).cpu

end Sys2Proof.Machine
end

