-- ==== Sys2Proof/Laws/Shape.lean ====
section
/-! SUPPORT. What any instruction can do, said once: at most two bus writes, then new CPU registers and a cycle count; F
stays clean, and the two bits that only a departure from the decided parameters sets are kept. -/

namespace Sys2Proof.Machine

/-- What an instruction does to the machine: the bus writes of a list, then registers and a cycle count. -/
def Acts (s t : State) : Prop :=
  ∃ (stores : List (Word × Byte)) (c : Cpu) (n : Nat), t = ((storeAll stores s).setCpu c).withCycles n ∧
    stores.length ≤ 2 ∧ (FlagsClean s → FlagsClean t) ∧ c.locked = s.cpu.locked ∧ c.haltBug = s.cpu.haltBug

theorem acts_setCpu {s : State} {c : Cpu} (n : Nat) (hf : FlagsClean s → FlagsClean (s.setCpu c))
    (hl : c.locked = s.cpu.locked) (hb : c.haltBug = s.cpu.haltBug) : Acts s ((s.setCpu c).withCycles n) :=
  ⟨[], c, n, rfl, by decide, hf, hl, hb⟩

theorem acts_withCycles (s : State) (n : Nat) : Acts s (s.withCycles n) := acts_setCpu (c := s.cpu) n id rfl rfl

theorem acts_setFlags (s : State) (z n h c : Bool) (k : Nat) : Acts s ((s.setFlags z n h c).withCycles k) :=
  acts_setCpu k (fun _ => flagsClean_packFlags rfl) rfl rfl

/-- A write of an operand: a register, or one bus write at HL. -/
theorem acts_setOperand (r : Operand8) (v : Byte) (s : State) (n : Nat) : Acts s ((setOperand8 r v s).withCycles n) := by
  cases r with
  | indHl => exact ⟨[(s.hl, v)], (memWrite s s.hl v).cpu, n, rfl, by simp, fun h => by
      unfold FlagsClean at *; show (memWrite s s.hl v).cpu.f &&& _ = _; rw [memWrite_cpu]; exact h,
      by rw [memWrite_cpu], by rw [memWrite_cpu]⟩
  | b => exact acts_setCpu n id rfl rfl
  | c => exact acts_setCpu n id rfl rfl
  | d => exact acts_setCpu n id rfl rfl
  | e => exact acts_setCpu n id rfl rfl
  | h => exact acts_setCpu n id rfl rfl
  | l => exact acts_setCpu n id rfl rfl
  | a => exact acts_setCpu n id rfl rfl

/-- Flags written after something an instruction does. -/
theorem Acts.setFlags {s t : State} (h : Acts s t) (z n hf c : Bool) (k : Nat) :
    Acts s ((t.setFlags z n hf c).withCycles k) := by
  obtain ⟨st, c', m, rfl, hlen, -, hl, hb⟩ := h
  exact ⟨st, _, k, rfl, hlen, fun _ => flagsClean_packFlags rfl, hl, hb⟩

theorem acts_memWrite (s : State) (a : Word) (v : Byte) (c : Cpu) (n : Nat) (hf : c.f = s.cpu.f)
    (hl : c.locked = s.cpu.locked) (hb : c.haltBug = s.cpu.haltBug) : Acts s (((memWrite s a v).setCpu c).withCycles n) :=
  ⟨[(a, v)], c, n, rfl, by simp, fun h => by unfold FlagsClean at *; exact hf ▸ h, hl, hb⟩

theorem acts_memWrite_keep (s : State) (a : Word) (v : Byte) (n : Nat) : Acts s ((memWrite s a v).withCycles n) := by
  rw [withCycles_eq_setCpu]
  exact acts_memWrite s a v _ n (by rw [memWrite_cpu]) (by rw [memWrite_cpu]) (by rw [memWrite_cpu])

theorem acts_push16 (s : State) (v : Word) (c : Cpu) (n : Nat) (hf : c.f = s.cpu.f) (hl : c.locked = s.cpu.locked)
    (hb : c.haltBug = s.cpu.haltBug) : Acts s (((push16 v s).setCpu c).withCycles n) := by
  rw [push16_eq']
  exact ⟨[(s.cpu.sp - 1, hiByte v), (s.cpu.sp - 2, loByte v)], c, n, rfl, by simp,
    fun h => by unfold FlagsClean at *; exact hf ▸ h, hl, hb⟩

theorem acts_pushPcAndGo (s : State) (a : Word) (n : Nat) : Acts s ((pushPcAndGo a s).withCycles n) := by
  unfold pushPcAndGo
  rw [State.setPc_eq]
  exact acts_push16 s _ _ n (by rw [push16_cpu]) (by rw [push16_cpu]) (by rw [push16_cpu])

theorem acts_popPc (s : State) (n : Nat) : Acts s ((popPc s).withCycles n) := acts_setCpu n id rfl rfl

theorem acts_aluOnA (op : AluOp) (v : Byte) (s : State) (n : Nat) : Acts s ((aluOnA op v s).withCycles n) := by
  unfold aluOnA setResultFlags
  dsimp only
  split
  · exact acts_setFlags _ _ _ _ _ _
  · exact acts_setCpu n (fun _ => flagsClean_packFlags rfl) rfl rfl

theorem acts_setPair (p : Pair) (v : Word) (s : State) (n : Nat) : Acts s ((setPair p v s).withCycles n) := by
  cases p <;> exact acts_setCpu n id rfl rfl

/-- POP leaves F clean too: AF is written with its low nibble dropped. -/
theorem acts_popPair (p : StackPair) (s : State) : Acts s (popPair p s) := by
  cases p with
  | af => exact acts_setCpu 12 (fun _ => maskF_low _) rfl rfl
  | bc => exact acts_setCpu 12 id rfl rfl
  | de => exact acts_setCpu 12 id rfl rfl
  | hl => exact acts_setCpu 12 id rfl rfl

/-- Every instruction, in every state. -/
theorem exec_acts (i : Instr) (s : State) : ∃ t, exec i s = .next t ∧ Acts s t := by
  refine Instr.byFamily (P := fun i => ∃ t, exec i s = .next t ∧ Acts s t)
    (fun dst r h => ⟨_, exec_ld8 dst r s h, acts_setOperand _ _ _ _⟩)
    (fun n r => ⟨_, exec_ldImm8 n r s, acts_setOperand _ _ _ _⟩)
    (fun op r => ⟨_, exec_alu8 op r s, acts_aluOnA _ _ _ _⟩) (fun n op => ⟨_, exec_aluImm n op s, acts_aluOnA _ _ _ _⟩)
    (fun r => ⟨_, exec_inc8 r s, (acts_setOperand r _ s 0).setFlags _ _ _ _ _⟩)
    (fun r => ⟨_, exec_dec8 r s, (acts_setOperand r _ s 0).setFlags _ _ _ _ _⟩)
    (fun nn p => ⟨_, exec_ldImm16 nn p s, acts_setPair _ _ _ _⟩)
    (fun p => ⟨_, exec_push p s, by
      unfold pushPair
      rw [withCycles_eq_setCpu]
      exact acts_push16 s _ _ _ (by rw [push16_cpu]) (by rw [push16_cpu]) (by rw [push16_cpu])⟩)
    (fun p => ⟨_, exec_pop p s, acts_popPair p s⟩)
    (fun p => ⟨_, exec_addHl p s, acts_setCpu 8 (fun _ => flagsClean_packFlags rfl) rfl rfl⟩)
    (fun p => ⟨_, exec_inc16 p s, acts_setPair _ _ _ _⟩) (fun p => ⟨_, exec_dec16 p s, acts_setPair _ _ _ _⟩)
    (fun e cc => ⟨_, exec_jrCond e cc s, by
      unfold jumpRelIf; split; exacts [acts_setCpu _ id rfl rfl, acts_withCycles _ _]⟩)
    (fun nn cc => ⟨_, exec_jpCond nn cc s, by
      unfold jumpIf; split; exacts [acts_setCpu _ id rfl rfl, acts_withCycles _ _]⟩)
    (fun nn cc => ⟨_, exec_callCond nn cc s, by
      unfold callIf; split; exacts [acts_pushPcAndGo _ _ _, acts_withCycles _ _]⟩)
    (fun cc => ⟨_, exec_retCond cc s, by unfold retIf; split; exacts [acts_popPc _ _, acts_withCycles _ _]⟩)
    (fun y => ⟨_, exec_rst y s, acts_pushPcAndGo _ _ _⟩)
    (fun op r => ⟨_, exec_rot op r s, (acts_setOperand r _ s 0).setFlags _ _ _ _ _⟩)
    (fun b r => ⟨_, exec_bit b r s, acts_setFlags _ _ _ _ _ _⟩)
    (fun b r => ⟨_, exec_res b r s, acts_setOperand _ _ _ _⟩) (fun b r => ⟨_, exec_set b r s, acts_setOperand _ _ _ _⟩)
    (fun k => ⟨_, exec_illegal k s, acts_withCycles _ _⟩)
    ?ldIndNnSp ?stop ?jrE8 ?jpNn ?callNn ?ldhIndNA ?addSpE8 ?ldIndNnA ?ldhAIndN ?ldHlSpE8 ?ldAIndNn ?nop ?ldIndBcA ?rlca
    ?ldAIndBc ?rrca ?ldIndDeA ?rla ?ldAIndDe ?rra ?ldIndHliA ?daa ?ldAIndHli ?cpl ?ldIndHldA ?scf ?ldAIndHld ?ccf ?ret ?reti
    ?ldIndCA ?jpHl ?ldAIndC ?di ?ldSpHl ?ei ?halt i
  case ldIndNnSp =>
    intro nn
    refine ⟨_, rfl, [(nn, loByte s.cpu.sp), (nn + 1, hiByte s.cpu.sp)], s.cpu, 20, ?_, by simp, ?_, rfl, rfl⟩
    · unfold storeSp
      rw [withCycles_eq_setCpu, memWrite_cpu, memWrite_cpu]; rfl
    · intro h; unfold FlagsClean storeSp at *; simpa using h
  case stop => intro n; exact ⟨_, rfl, acts_withCycles _ _⟩
  case nop => exact ⟨_, rfl, acts_withCycles _ _⟩
  case addSpE8 => intro e; exact ⟨_, rfl, acts_setCpu _ (fun _ => flagsClean_packFlags rfl) rfl rfl⟩
  case ldHlSpE8 => intro e; exact ⟨_, rfl, acts_setCpu _ (fun _ => flagsClean_packFlags rfl) rfl rfl⟩
  case rlca => exact ⟨_, rfl, acts_setCpu _ (fun _ => flagsClean_packFlags rfl) rfl rfl⟩
  case rrca => exact ⟨_, rfl, acts_setCpu _ (fun _ => flagsClean_packFlags rfl) rfl rfl⟩
  case rla => exact ⟨_, rfl, acts_setCpu _ (fun _ => flagsClean_packFlags rfl) rfl rfl⟩
  case rra => exact ⟨_, rfl, acts_setCpu _ (fun _ => flagsClean_packFlags rfl) rfl rfl⟩
  case cpl => exact ⟨_, rfl, acts_setCpu _ (fun _ => flagsClean_packFlags rfl) rfl rfl⟩
  case daa => exact ⟨_, rfl, acts_setCpu _ (fun _ => flagsClean_packFlags rfl) rfl rfl⟩
  case scf => exact ⟨_, rfl, acts_setFlags _ _ _ _ _ _⟩
  case ccf => exact ⟨_, rfl, acts_setFlags _ _ _ _ _ _⟩
  case jrE8 => intro e; exact ⟨_, rfl, acts_setCpu _ id rfl rfl⟩
  case jpNn => intro nn; exact ⟨_, rfl, acts_setCpu _ id rfl rfl⟩
  case ldhAIndN => intro n; exact ⟨_, rfl, acts_setCpu _ id rfl rfl⟩
  case ldAIndNn => intro nn; exact ⟨_, rfl, acts_setCpu _ id rfl rfl⟩
  case ldAIndBc => exact ⟨_, rfl, acts_setCpu _ id rfl rfl⟩
  case ldAIndDe => exact ⟨_, rfl, acts_setCpu _ id rfl rfl⟩
  case ldAIndHli => exact ⟨_, rfl, acts_setCpu _ id rfl rfl⟩
  case ldAIndHld => exact ⟨_, rfl, acts_setCpu _ id rfl rfl⟩
  case reti => exact ⟨_, rfl, acts_setCpu _ id rfl rfl⟩
  case ldAIndC => exact ⟨_, rfl, acts_setCpu _ id rfl rfl⟩
  case jpHl => exact ⟨_, rfl, acts_setCpu _ id rfl rfl⟩
  case di => exact ⟨_, rfl, acts_setCpu _ id rfl rfl⟩
  case ldSpHl => exact ⟨_, rfl, acts_setCpu _ id rfl rfl⟩
  case ei => exact ⟨_, rfl, acts_setCpu _ id rfl rfl⟩
  case halt => exact ⟨_, rfl, acts_setCpu _ id rfl rfl⟩
  case ret => exact ⟨_, rfl, acts_setCpu _ id rfl rfl⟩
  case ldhIndNA => intro n; exact ⟨_, rfl, acts_memWrite_keep _ _ _ _⟩
  case ldIndNnA => intro nn; exact ⟨_, rfl, acts_memWrite_keep _ _ _ _⟩
  case ldIndBcA => exact ⟨_, rfl, acts_memWrite_keep _ _ _ _⟩
  case ldIndDeA => exact ⟨_, rfl, acts_memWrite_keep _ _ _ _⟩
  case ldIndCA => exact ⟨_, rfl, acts_memWrite_keep _ _ _ _⟩
  case callNn => intro nn; exact ⟨_, rfl, acts_pushPcAndGo _ _ _⟩
  case ldIndHliA =>
    refine ⟨_, rfl, ?_⟩
    unfold storeAStep
    exact acts_memWrite s _ _ _ 8 (by rw [memWrite_cpu]) (by rw [memWrite_cpu]) (by rw [memWrite_cpu])
  case ldIndHldA =>
    refine ⟨_, rfl, ?_⟩
    unfold storeAStep
    exact acts_memWrite s _ _ _ 8 (by rw [memWrite_cpu]) (by rw [memWrite_cpu]) (by rw [memWrite_cpu])

end Sys2Proof.Machine
end

