-- ==== Sys2Proof/Laws/Step.lean ====
section
/-! SUPPORT. The machine step, case by case: an interrupt is taken, the CPU is locked or halted, or one instruction runs.
What stands before and after the instruction: the promoted enable, the released HALT, the fetched bytes, the catch-up. -/

namespace Sys2Proof.Machine

/-! ## Before the instruction -/

theorem promoteIme_cpu (s : State) : promoteIme s = s.setCpu (promoteIme s).cpu := by
  unfold promoteIme; split <;> rfl

theorem releaseHalt_cpu (s : State) : releaseHalt s = s.setCpu (releaseHalt s).cpu := by
  unfold releaseHalt; split <;> rfl

theorem advancePc_cpu (s : State) : advancePc s = s.setCpu (advancePc s).cpu := rfl

/-- The state in which the instruction's bytes are fetched differs from the one before the step in the CPU's control bits
only. -/
def readyState (s : State) : State := promoteIme (releaseHalt s)

theorem readyState_cpu (s : State) : readyState s = s.setCpu (readyState s).cpu := by
  unfold readyState
  rw [promoteIme_cpu, releaseHalt_cpu]
  rfl

/-- R530, R533: what HALT's release changes. -/
theorem releaseHalt_fields (s : State) :
    (releaseHalt s).cpu = { s.cpu with halted := (releaseHalt s).cpu.halted } ∧
      ((releaseHalt s).cpu.halted = true → s.cpu.halted = true) := by
  unfold releaseHalt
  split
  · exact ⟨rfl, fun h => absurd h (by simp)⟩
  · exact ⟨rfl, id⟩

/-- R340: what the promotion of a scheduled enable changes. -/
theorem promoteIme_fields (s : State) :
    (promoteIme s).cpu = { s.cpu with ime := s.cpu.ime || s.cpu.imeScheduled, imeScheduled := false } := by
  unfold promoteIme
  split
  · next h => simp [h]
  · next h =>
    have h' : s.cpu.imeScheduled = false := by simpa using h
    obtain ⟨cpu, mem, cart, ppu, apu, timer, joypad, cycles⟩ := s
    obtain ⟨a, f, b, c, d, e, hh, l, sp, pc, halted, ime, imeS, locked, haltBug⟩ := cpu
    simp only at h'
    subst h'
    simp

theorem readyState_fields (s : State) :
    (readyState s).cpu = { s.cpu with halted := (releaseHalt s).cpu.halted, ime := s.cpu.ime || s.cpu.imeScheduled,
                                      imeScheduled := false } := by
  unfold readyState
  rw [promoteIme_fields, (releaseHalt_fields s).1]

theorem memRead_readyState (s : State) (a : Word) : memRead (readyState s) a = memRead s a := by
  rw [readyState_cpu, memRead_setCpu]

theorem fetchBytes_setCpu (s : State) (c : Cpu) (hpc : c.pc = s.cpu.pc) (hb : c.haltBug = s.cpu.haltBug) :
    fetchBytes (s.setCpu c) = fetchBytes s := by
  unfold fetchBytes
  simp only [State.setCpu_cpu, memRead_setCpu, hpc, hb]

theorem fetchBytes_readyState (s : State) : fetchBytes (readyState s) = fetchBytes s := by
  rw [readyState_cpu]
  exact fetchBytes_setCpu s _ (by rw [readyState_fields]) (by rw [readyState_fields])

theorem fetchInstr_readyState (s : State) : fetchInstr (readyState s) = fetchInstr s := by
  unfold fetchInstr
  rw [fetchBytes_readyState]

/-- Without the HALT bug the bytes fetched are the three from PC on. -/
theorem fetchBytes_plain {s : State} (h : s.cpu.haltBug = false) :
    fetchBytes s = (memRead s s.cpu.pc, memRead s (s.cpu.pc + 1), memRead s (s.cpu.pc + 2)) := by
  unfold fetchBytes; simp [h]

theorem advancePc_plain {s : State} (h : s.cpu.haltBug = false) :
    advancePc s = s.setPc (s.cpu.pc + BitVec.ofNat 16 (opcodeLength (memRead s s.cpu.pc))) := by
  unfold advancePc
  rw [fetchBytes_plain h]
  simp only [h, State.setPc_eq]
  obtain ⟨cpu, mem, cart, ppu, apu, timer, joypad, cycles⟩ := s
  obtain ⟨a, f, b, c, d, e, hh, l, sp, pc, halted, ime, imeS, locked, haltBug⟩ := cpu
  simp only at h
  subst h
  rfl

/-! ## The three kinds of step -/

/-- R526, R530: an interrupt is taken. -/
theorem step_interrupt {s : State} (h : interruptTaken s = true) : step s = .next (tickDevices (dispatch s)) := by
  unfold step cpuPhase
  rw [if_pos h]
  rfl

/-- R340: a locked or halted CPU lets 4 cycles pass. -/
theorem step_idle {s : State} (h : interruptTaken s = false)
    (hi : (readyState s).cpu.locked = true ∨ (readyState s).cpu.halted = true) :
    step s = .next (tickDevices ((readyState s).withCycles 4)) := by
  unfold step cpuPhase
  rw [if_neg (by simp [h])]
  show finishStep (if (readyState s).cpu.locked then .next ((readyState s).withCycles 4)
    else if (readyState s).cpu.halted then .next ((readyState s).withCycles 4)
    else exec (fetchInstr (readyState s)) (advancePc (readyState s))) = _
  split
  · rfl
  · next hl =>
    have : (readyState s).cpu.halted = true := hi.resolve_left hl
    rw [if_pos this]
    rfl

/-- R340: one instruction runs. -/
theorem step_runs {s : State} (h : interruptTaken s = false) (hl : (readyState s).cpu.locked = false)
    (hh : (readyState s).cpu.halted = false) :
    step s = finishStep (exec (fetchInstr (readyState s)) (advancePc (readyState s))) := by
  unfold step cpuPhase
  rw [if_neg (by simp [h])]
  show finishStep (if (readyState s).cpu.locked then .next ((readyState s).withCycles 4)
    else if (readyState s).cpu.halted then .next ((readyState s).withCycles 4)
    else exec (fetchInstr (readyState s)) (advancePc (readyState s))) = _
  rw [if_neg (by simp [hl]), if_neg (by simp [hh])]

/-- Every step is one of the three, and answers a next state: the catch-up of what the CPU's part left. -/
theorem step_cases (s : State) :
    (interruptTaken s = true ∧ step s = .next (tickDevices (dispatch s))) ∨
    (interruptTaken s = false ∧ step s = .next (tickDevices ((readyState s).withCycles 4))) ∨
    (interruptTaken s = false ∧ ∃ t, exec (fetchInstr s) (advancePc (readyState s)) = .next t ∧
      step s = .next (tickDevices t)) := by
  cases h : interruptTaken s with
  | true => exact .inl ⟨rfl, step_interrupt h⟩
  | false =>
    by_cases hi : (readyState s).cpu.locked = true ∨ (readyState s).cpu.halted = true
    · exact .inr (.inl ⟨rfl, step_idle h hi⟩)
    · simp only [not_or, Bool.not_eq_true] at hi
      obtain ⟨t, ht⟩ := exec_next (fetchInstr s) (advancePc (readyState s))
      refine .inr (.inr ⟨rfl, t, ht, ?_⟩)
      rw [step_runs h hi.1 hi.2, fetchInstr_readyState, ht]
      rfl

/-- The state that a dispatch leaves (R525). -/
theorem takeInterrupt_eq (k : Nat) (s : State) :
    takeInterrupt k s =
      ((push16 s.cpu.pc ((s.setIo Io.intFlag (s.io Io.intFlag &&& ~~~(1#8 <<< k))).setCpu { s.cpu with ime := false })).setCpu
        { s.cpu with ime := false, sp := s.cpu.sp - 2, pc := vectorOf k, halted := false }).withCycles 20 := by
  unfold takeInterrupt
  simp only [State.setCpu_cpu, State.setIo_cpu, push16_cpu]

/-- What an instruction does keeps the devices' part of the invariant. -/
theorem devicesOk_acts {s t : State} (h : DevicesOk s) (ha : Acts s t) : DevicesOk t := by
  obtain ⟨st, c, n, rfl, -, -⟩ := ha
  refine DevicesOk.withCycles (DevicesOk.setCpu ?_ c) n
  clear n c
  unfold storeAll
  induction st generalizing s with
  | nil => exact h
  | cons p st ih => exact ih (devicesOk_memWrite h p.1 p.2)

end Sys2Proof.Machine
end

