-- ==== Sys2Proof/Tests/Slice0.lean ====
section
/-! SUPPORT. Tests: well-formedness and decoding, one step on small states with the results of 95_test_vectors.md, and
for each obligation with hypotheses a state and operands that meet them. -/

namespace Sys2Proof.Tests

open Sys2Proof Sys2Proof.Machine

/-! ## Well-formedness: an ill-formed byte sequence for each check -/

theorem test_wf_refuses_no_byte : hasOpcode [] = false ∧ wellFormedBytes [] = false := by decide

theorem test_wf_refuses_short : hasOpcodeLength [0xCB] = false ∧ wellFormedBytes [0x01, 0x34] = false := by decide

theorem test_wf_refuses_long : hasOpcodeLength [0x00, 0x00] = false ∧ wellFormedBytes [0x3E, 0x45, 0x00] = false := by decide

theorem test_wf_accepts : wellFormedBytes [0xCB, 0x37] = true ∧ wellFormedBytes [0x01, 0x34, 0x12] = true := by decide

theorem test_decode_refuses_no_byte : decode [] = .error .noBytes := rfl

theorem test_decode_refuses_short : decode [0x01, 0x34] = .error (.truncated 3) := rfl

/-! ## Decoding: the words of the opcode map of 30_encoding.md (R146, R147), a row of it in each theorem. The bytes
after the opcode are 0x34 and 0x12, so an immediate `nn` is 0x1234 (R145). -/

theorem test_decode_0x :
    [0x00, 0x01, 0x02, 0x03, 0x04, 0x05, 0x06, 0x07, 0x08, 0x09, 0x0A, 0x0B, 0x0C, 0x0D, 0x0E, 0x0F].map (fun op : Byte => decodeBytes op 0x34 0x12) =
    [.nop, .ldBcNn 0x1234#16, .ldIndBcA, .incBc, .incB, .decB,
     .ldBN 0x34#8, .rlca, .ldIndNnSp 0x1234#16, .addHlBc, .ldAIndBc, .decBc,
     .incC, .decC, .ldCN 0x34#8, .rrca] := by decide

theorem test_decode_1x :
    [0x10, 0x11, 0x12, 0x13, 0x14, 0x15, 0x16, 0x17, 0x18, 0x19, 0x1A, 0x1B, 0x1C, 0x1D, 0x1E, 0x1F].map (fun op : Byte => decodeBytes op 0x34 0x12) =
    [.stop 0x34#8, .ldDeNn 0x1234#16, .ldIndDeA, .incDe, .incD, .decD,
     .ldDN 0x34#8, .rla, .jrE8 0x34#8, .addHlDe, .ldAIndDe, .decDe,
     .incE, .decE, .ldEN 0x34#8, .rra] := by decide

theorem test_decode_2x :
    [0x20, 0x21, 0x22, 0x23, 0x24, 0x25, 0x26, 0x27, 0x28, 0x29, 0x2A, 0x2B, 0x2C, 0x2D, 0x2E, 0x2F].map (fun op : Byte => decodeBytes op 0x34 0x12) =
    [.jrNzE8 0x34#8, .ldHlNn 0x1234#16, .ldIndHliA, .incHl, .incH, .decH,
     .ldHN 0x34#8, .daa, .jrZE8 0x34#8, .addHlHl, .ldAIndHli, .decHl,
     .incL, .decL, .ldLN 0x34#8, .cpl] := by decide

theorem test_decode_3x :
    [0x30, 0x31, 0x32, 0x33, 0x34, 0x35, 0x36, 0x37, 0x38, 0x39, 0x3A, 0x3B, 0x3C, 0x3D, 0x3E, 0x3F].map (fun op : Byte => decodeBytes op 0x34 0x12) =
    [.jrNcE8 0x34#8, .ldSpNn 0x1234#16, .ldIndHldA, .incSp, .incIndHl, .decIndHl,
     .ldIndHlN 0x34#8, .scf, .jrCE8 0x34#8, .addHlSp, .ldAIndHld, .decSp,
     .incA, .decA, .ldAN 0x34#8, .ccf] := by decide

theorem test_decode_4x :
    [0x40, 0x41, 0x42, 0x43, 0x44, 0x45, 0x46, 0x47, 0x48, 0x49, 0x4A, 0x4B, 0x4C, 0x4D, 0x4E, 0x4F].map (fun op : Byte => decodeBytes op 0x34 0x12) =
    [.ldBB, .ldBC, .ldBD, .ldBE, .ldBH, .ldBL,
     .ldBIndHl, .ldBA, .ldCB, .ldCC, .ldCD, .ldCE,
     .ldCH, .ldCL, .ldCIndHl, .ldCA] := by decide

theorem test_decode_5x :
    [0x50, 0x51, 0x52, 0x53, 0x54, 0x55, 0x56, 0x57, 0x58, 0x59, 0x5A, 0x5B, 0x5C, 0x5D, 0x5E, 0x5F].map (fun op : Byte => decodeBytes op 0x34 0x12) =
    [.ldDB, .ldDC, .ldDD, .ldDE, .ldDH, .ldDL,
     .ldDIndHl, .ldDA, .ldEB, .ldEC, .ldED, .ldEE,
     .ldEH, .ldEL, .ldEIndHl, .ldEA] := by decide

theorem test_decode_6x :
    [0x60, 0x61, 0x62, 0x63, 0x64, 0x65, 0x66, 0x67, 0x68, 0x69, 0x6A, 0x6B, 0x6C, 0x6D, 0x6E, 0x6F].map (fun op : Byte => decodeBytes op 0x34 0x12) =
    [.ldHB, .ldHC, .ldHD, .ldHE, .ldHH, .ldHL,
     .ldHIndHl, .ldHA, .ldLB, .ldLC, .ldLD, .ldLE,
     .ldLH, .ldLL, .ldLIndHl, .ldLA] := by decide

theorem test_decode_7x :
    [0x70, 0x71, 0x72, 0x73, 0x74, 0x75, 0x76, 0x77, 0x78, 0x79, 0x7A, 0x7B, 0x7C, 0x7D, 0x7E, 0x7F].map (fun op : Byte => decodeBytes op 0x34 0x12) =
    [.ldIndHlB, .ldIndHlC, .ldIndHlD, .ldIndHlE, .ldIndHlH, .ldIndHlL,
     .halt, .ldIndHlA, .ldAB, .ldAC, .ldAD, .ldAE,
     .ldAH, .ldAL, .ldAIndHl, .ldAA] := by decide

theorem test_decode_8x :
    [0x80, 0x81, 0x82, 0x83, 0x84, 0x85, 0x86, 0x87, 0x88, 0x89, 0x8A, 0x8B, 0x8C, 0x8D, 0x8E, 0x8F].map (fun op : Byte => decodeBytes op 0x34 0x12) =
    [.addAB, .addAC, .addAD, .addAE, .addAH, .addAL,
     .addAIndHl, .addAA, .adcAB, .adcAC, .adcAD, .adcAE,
     .adcAH, .adcAL, .adcAIndHl, .adcAA] := by decide

theorem test_decode_9x :
    [0x90, 0x91, 0x92, 0x93, 0x94, 0x95, 0x96, 0x97, 0x98, 0x99, 0x9A, 0x9B, 0x9C, 0x9D, 0x9E, 0x9F].map (fun op : Byte => decodeBytes op 0x34 0x12) =
    [.subB, .subC, .subD, .subE, .subH, .subL,
     .subIndHl, .subA, .sbcAB, .sbcAC, .sbcAD, .sbcAE,
     .sbcAH, .sbcAL, .sbcAIndHl, .sbcAA] := by decide

theorem test_decode_Ax :
    [0xA0, 0xA1, 0xA2, 0xA3, 0xA4, 0xA5, 0xA6, 0xA7, 0xA8, 0xA9, 0xAA, 0xAB, 0xAC, 0xAD, 0xAE, 0xAF].map (fun op : Byte => decodeBytes op 0x34 0x12) =
    [.andB, .andC, .andD, .andE, .andH, .andL,
     .andIndHl, .andA, .xorB, .xorC, .xorD, .xorE,
     .xorH, .xorL, .xorIndHl, .xorA] := by decide

theorem test_decode_Bx :
    [0xB0, 0xB1, 0xB2, 0xB3, 0xB4, 0xB5, 0xB6, 0xB7, 0xB8, 0xB9, 0xBA, 0xBB, 0xBC, 0xBD, 0xBE, 0xBF].map (fun op : Byte => decodeBytes op 0x34 0x12) =
    [.orB, .orC, .orD, .orE, .orH, .orL,
     .orIndHl, .orA, .cpB, .cpC, .cpD, .cpE,
     .cpH, .cpL, .cpIndHl, .cpA] := by decide

theorem test_decode_Cx :
    [0xC0, 0xC1, 0xC2, 0xC3, 0xC4, 0xC5, 0xC6, 0xC7, 0xC8, 0xC9, 0xCA, 0xCC, 0xCD, 0xCE, 0xCF].map (fun op : Byte => decodeBytes op 0x34 0x12) =
    [.retNz, .popBc, .jpNzNn 0x1234#16, .jpNn 0x1234#16, .callNzNn 0x1234#16, .pushBc,
     .addAN 0x34#8, .rst00, .retZ, .ret, .jpZNn 0x1234#16, .callZNn 0x1234#16,
     .callNn 0x1234#16, .adcAN 0x34#8, .rst08] := by decide

theorem test_decode_Dx :
    [0xD0, 0xD1, 0xD2, 0xD3, 0xD4, 0xD5, 0xD6, 0xD7, 0xD8, 0xD9, 0xDA, 0xDB, 0xDC, 0xDD, 0xDE, 0xDF].map (fun op : Byte => decodeBytes op 0x34 0x12) =
    [.retNc, .popDe, .jpNcNn 0x1234#16, .illegalD3, .callNcNn 0x1234#16, .pushDe,
     .subN 0x34#8, .rst10, .retC, .reti, .jpCNn 0x1234#16, .illegalDB,
     .callCNn 0x1234#16, .illegalDD, .sbcAN 0x34#8, .rst18] := by decide

theorem test_decode_Ex :
    [0xE0, 0xE1, 0xE2, 0xE3, 0xE4, 0xE5, 0xE6, 0xE7, 0xE8, 0xE9, 0xEA, 0xEB, 0xEC, 0xED, 0xEE, 0xEF].map (fun op : Byte => decodeBytes op 0x34 0x12) =
    [.ldhIndNA 0x34#8, .popHl, .ldIndCA, .illegalE3, .illegalE4, .pushHl,
     .andN 0x34#8, .rst20, .addSpE8 0x34#8, .jpHl, .ldIndNnA 0x1234#16, .illegalEB,
     .illegalEC, .illegalED, .xorN 0x34#8, .rst28] := by decide

theorem test_decode_Fx :
    [0xF0, 0xF1, 0xF2, 0xF3, 0xF4, 0xF5, 0xF6, 0xF7, 0xF8, 0xF9, 0xFA, 0xFB, 0xFC, 0xFD, 0xFE, 0xFF].map (fun op : Byte => decodeBytes op 0x34 0x12) =
    [.ldhAIndN 0x34#8, .popAf, .ldAIndC, .di, .illegalF4, .pushAf,
     .orN 0x34#8, .rst30, .ldHlSpE8 0x34#8, .ldSpHl, .ldAIndNn 0x1234#16, .ei,
     .illegalFC, .illegalFD, .cpN 0x34#8, .rst38] := by decide

theorem test_decode_cb_0x :
    [0x00, 0x01, 0x02, 0x03, 0x04, 0x05, 0x06, 0x07, 0x08, 0x09, 0x0A, 0x0B, 0x0C, 0x0D, 0x0E, 0x0F].map (fun op2 : Byte => decodeBytes 0xCB op2 0x12) =
    [.rlcB, .rlcC, .rlcD, .rlcE, .rlcH, .rlcL, .rlcIndHl, .rlcA,
     .rrcB, .rrcC, .rrcD, .rrcE, .rrcH, .rrcL, .rrcIndHl, .rrcA] := by decide

theorem test_decode_cb_1x :
    [0x10, 0x11, 0x12, 0x13, 0x14, 0x15, 0x16, 0x17, 0x18, 0x19, 0x1A, 0x1B, 0x1C, 0x1D, 0x1E, 0x1F].map (fun op2 : Byte => decodeBytes 0xCB op2 0x12) =
    [.rlB, .rlC, .rlD, .rlE, .rlH, .rlL, .rlIndHl, .rlA,
     .rrB, .rrC, .rrD, .rrE, .rrH, .rrL, .rrIndHl, .rrA] := by decide

theorem test_decode_cb_2x :
    [0x20, 0x21, 0x22, 0x23, 0x24, 0x25, 0x26, 0x27, 0x28, 0x29, 0x2A, 0x2B, 0x2C, 0x2D, 0x2E, 0x2F].map (fun op2 : Byte => decodeBytes 0xCB op2 0x12) =
    [.slaB, .slaC, .slaD, .slaE, .slaH, .slaL, .slaIndHl, .slaA,
     .sraB, .sraC, .sraD, .sraE, .sraH, .sraL, .sraIndHl, .sraA] := by decide

theorem test_decode_cb_3x :
    [0x30, 0x31, 0x32, 0x33, 0x34, 0x35, 0x36, 0x37, 0x38, 0x39, 0x3A, 0x3B, 0x3C, 0x3D, 0x3E, 0x3F].map (fun op2 : Byte => decodeBytes 0xCB op2 0x12) =
    [.swapB, .swapC, .swapD, .swapE, .swapH, .swapL, .swapIndHl, .swapA,
     .srlB, .srlC, .srlD, .srlE, .srlH, .srlL, .srlIndHl, .srlA] := by decide

theorem test_decode_cb_4x :
    [0x40, 0x41, 0x42, 0x43, 0x44, 0x45, 0x46, 0x47, 0x48, 0x49, 0x4A, 0x4B, 0x4C, 0x4D, 0x4E, 0x4F].map (fun op2 : Byte => decodeBytes 0xCB op2 0x12) =
    [.bit0B, .bit0C, .bit0D, .bit0E, .bit0H, .bit0L, .bit0IndHl, .bit0A,
     .bit1B, .bit1C, .bit1D, .bit1E, .bit1H, .bit1L, .bit1IndHl, .bit1A] := by decide

theorem test_decode_cb_5x :
    [0x50, 0x51, 0x52, 0x53, 0x54, 0x55, 0x56, 0x57, 0x58, 0x59, 0x5A, 0x5B, 0x5C, 0x5D, 0x5E, 0x5F].map (fun op2 : Byte => decodeBytes 0xCB op2 0x12) =
    [.bit2B, .bit2C, .bit2D, .bit2E, .bit2H, .bit2L, .bit2IndHl, .bit2A,
     .bit3B, .bit3C, .bit3D, .bit3E, .bit3H, .bit3L, .bit3IndHl, .bit3A] := by decide

theorem test_decode_cb_6x :
    [0x60, 0x61, 0x62, 0x63, 0x64, 0x65, 0x66, 0x67, 0x68, 0x69, 0x6A, 0x6B, 0x6C, 0x6D, 0x6E, 0x6F].map (fun op2 : Byte => decodeBytes 0xCB op2 0x12) =
    [.bit4B, .bit4C, .bit4D, .bit4E, .bit4H, .bit4L, .bit4IndHl, .bit4A,
     .bit5B, .bit5C, .bit5D, .bit5E, .bit5H, .bit5L, .bit5IndHl, .bit5A] := by decide

theorem test_decode_cb_7x :
    [0x70, 0x71, 0x72, 0x73, 0x74, 0x75, 0x76, 0x77, 0x78, 0x79, 0x7A, 0x7B, 0x7C, 0x7D, 0x7E, 0x7F].map (fun op2 : Byte => decodeBytes 0xCB op2 0x12) =
    [.bit6B, .bit6C, .bit6D, .bit6E, .bit6H, .bit6L, .bit6IndHl, .bit6A,
     .bit7B, .bit7C, .bit7D, .bit7E, .bit7H, .bit7L, .bit7IndHl, .bit7A] := by decide

theorem test_decode_cb_8x :
    [0x80, 0x81, 0x82, 0x83, 0x84, 0x85, 0x86, 0x87, 0x88, 0x89, 0x8A, 0x8B, 0x8C, 0x8D, 0x8E, 0x8F].map (fun op2 : Byte => decodeBytes 0xCB op2 0x12) =
    [.res0B, .res0C, .res0D, .res0E, .res0H, .res0L, .res0IndHl, .res0A,
     .res1B, .res1C, .res1D, .res1E, .res1H, .res1L, .res1IndHl, .res1A] := by decide

theorem test_decode_cb_9x :
    [0x90, 0x91, 0x92, 0x93, 0x94, 0x95, 0x96, 0x97, 0x98, 0x99, 0x9A, 0x9B, 0x9C, 0x9D, 0x9E, 0x9F].map (fun op2 : Byte => decodeBytes 0xCB op2 0x12) =
    [.res2B, .res2C, .res2D, .res2E, .res2H, .res2L, .res2IndHl, .res2A,
     .res3B, .res3C, .res3D, .res3E, .res3H, .res3L, .res3IndHl, .res3A] := by decide

theorem test_decode_cb_Ax :
    [0xA0, 0xA1, 0xA2, 0xA3, 0xA4, 0xA5, 0xA6, 0xA7, 0xA8, 0xA9, 0xAA, 0xAB, 0xAC, 0xAD, 0xAE, 0xAF].map (fun op2 : Byte => decodeBytes 0xCB op2 0x12) =
    [.res4B, .res4C, .res4D, .res4E, .res4H, .res4L, .res4IndHl, .res4A,
     .res5B, .res5C, .res5D, .res5E, .res5H, .res5L, .res5IndHl, .res5A] := by decide

theorem test_decode_cb_Bx :
    [0xB0, 0xB1, 0xB2, 0xB3, 0xB4, 0xB5, 0xB6, 0xB7, 0xB8, 0xB9, 0xBA, 0xBB, 0xBC, 0xBD, 0xBE, 0xBF].map (fun op2 : Byte => decodeBytes 0xCB op2 0x12) =
    [.res6B, .res6C, .res6D, .res6E, .res6H, .res6L, .res6IndHl, .res6A,
     .res7B, .res7C, .res7D, .res7E, .res7H, .res7L, .res7IndHl, .res7A] := by decide

theorem test_decode_cb_Cx :
    [0xC0, 0xC1, 0xC2, 0xC3, 0xC4, 0xC5, 0xC6, 0xC7, 0xC8, 0xC9, 0xCA, 0xCB, 0xCC, 0xCD, 0xCE, 0xCF].map (fun op2 : Byte => decodeBytes 0xCB op2 0x12) =
    [.set0B, .set0C, .set0D, .set0E, .set0H, .set0L, .set0IndHl, .set0A,
     .set1B, .set1C, .set1D, .set1E, .set1H, .set1L, .set1IndHl, .set1A] := by decide

theorem test_decode_cb_Dx :
    [0xD0, 0xD1, 0xD2, 0xD3, 0xD4, 0xD5, 0xD6, 0xD7, 0xD8, 0xD9, 0xDA, 0xDB, 0xDC, 0xDD, 0xDE, 0xDF].map (fun op2 : Byte => decodeBytes 0xCB op2 0x12) =
    [.set2B, .set2C, .set2D, .set2E, .set2H, .set2L, .set2IndHl, .set2A,
     .set3B, .set3C, .set3D, .set3E, .set3H, .set3L, .set3IndHl, .set3A] := by decide

theorem test_decode_cb_Ex :
    [0xE0, 0xE1, 0xE2, 0xE3, 0xE4, 0xE5, 0xE6, 0xE7, 0xE8, 0xE9, 0xEA, 0xEB, 0xEC, 0xED, 0xEE, 0xEF].map (fun op2 : Byte => decodeBytes 0xCB op2 0x12) =
    [.set4B, .set4C, .set4D, .set4E, .set4H, .set4L, .set4IndHl, .set4A,
     .set5B, .set5C, .set5D, .set5E, .set5H, .set5L, .set5IndHl, .set5A] := by decide

theorem test_decode_cb_Fx :
    [0xF0, 0xF1, 0xF2, 0xF3, 0xF4, 0xF5, 0xF6, 0xF7, 0xF8, 0xF9, 0xFA, 0xFB, 0xFC, 0xFD, 0xFE, 0xFF].map (fun op2 : Byte => decodeBytes 0xCB op2 0x12) =
    [.set6B, .set6C, .set6D, .set6E, .set6H, .set6L, .set6IndHl, .set6A,
     .set7B, .set7C, .set7D, .set7E, .set7H, .set7L, .set7IndHl, .set7A] := by decide

/-! ## Small states -/

/-- The reset state with bytes at the start of WRAM, PC there, SP in WRAM and F zero. -/
def wramState (bytes : List Byte) : State :=
  { State.reset with
    cpu := { State.reset.cpu with pc := 0xC000, sp := 0xD000, f := 0x00 }
    mem := { State.reset.mem with wram := Cells.ofList 0 bytes } }

/-- The same with other CPU registers. -/
def withCpu (f : Cpu → Cpu) (s : State) : State := s.setCpu (f s.cpu)

/-- The state with a byte written through the bus. -/
def withByte (a : Word) (v : Byte) (s : State) : State := memWrite s a v

/-- A state with the given cartridge. -/
def withCart (m : Mapper) (f : Cartridge → Cartridge) : State :=
  { State.reset with cart := f { Cartridge.empty with mapper := m, romSize := 0x40000, ramSize := 0x8000 } }

/-- Something of the state after one step. -/
def after {α : Type} (s : State) (f : State → α) : Option α :=
  match step s with
  | .next t => some (f t)
  | .fault _ => none
  | .refused _ => none

/-- Something of the state after one instruction. -/
def ran {α : Type} (i : Instr) (s : State) (f : State → α) : Option α :=
  match exec i s with
  | .next t => some (f t)
  | .fault _ => none
  | .refused _ => none

/-! ## One step or one instruction, with the results of 95_test_vectors.md (the vector in each comment) -/

/-- V41-6: LD (DE),A to echo RAM. -/
theorem test_ld_echo : ran .ldIndDeA (withCpu (fun c => { c with a := 0x42, d := 0xE0, e := 0x40 }) (wramState []))
    (fun t => memRead t 0xC040) = some 0x42#8 := by decide

/-- V41-7: LD (HL+),A at 0xFFFF writes IE, and HL wraps. -/
theorem test_ldi_wraps : ran .ldIndHliA (withCpu (fun c => { c with a := 0x11, h := 0xFF, l := 0xFF }) (wramState []))
    (fun t => (t.hl, t.mem.ie)) = some (0x0000#16, 0x11#8) := by decide

/-- V41-14: LD A,(C) of the joypad with nothing selected. -/
theorem test_ld_a_ind_c : ran .ldAIndC (withCpu (fun c => { c with c := 0x00 }) (wramState [])) (fun t => t.cpu.a) =
    some 0xFF#8 := by decide

/-- V42-1, by a whole step. -/
theorem test_add_wraps : after (wramState [0xC6, 0xFF]) (fun t => (t.cpu.a, t.cpu.f, t.cpu.pc, t.cycles)) =
    some (0x00#8, 0xB0#8, 0xC002#16, 8) := by decide

/-- V42-5: H of ADC from the carry alone. -/
theorem test_adc_half : ran (.adcAN 0x0F) (withCpu (fun c => { c with a := 0x00, f := 0x10 }) (wramState []))
    (fun t => (t.cpu.a, t.cpu.f)) = some (0x10#8, 0x20#8) := by decide

/-- V42-6. -/
theorem test_sub_self : ran .subA (wramState []) (fun t => (t.cpu.a, t.cpu.f)) = some (0x00#8, 0xC0#8) := by decide

/-- V42-10: SBC with both borrows. -/
theorem test_sbc_full : ran (.sbcAN 0xFF) (withCpu (fun c => { c with a := 0x00, f := 0x10 }) (wramState []))
    (fun t => (t.cpu.a, t.cpu.f)) = some (0x00#8, 0xF0#8) := by decide

/-- V42-11, V42-12, V42-13: the flags of the logic operations. -/
theorem test_logic_flags :
    ran (.andN 0x0F) (withCpu (fun c => { c with a := 0xF0 }) (wramState [])) (fun t => t.cpu.f) = some 0xA0#8 ∧
    ran .xorA (withCpu (fun c => { c with a := 0x9C, f := 0x70 }) (wramState [])) (fun t => t.cpu.f) = some 0x80#8 ∧
    ran (.orN 0x00) (withCpu (fun c => { c with a := 0x00, f := 0x70 }) (wramState [])) (fun t => t.cpu.f) =
      some 0x80#8 := by decide

/-- V42-15: CP keeps A. -/
theorem test_cp_keeps : ran (.cpN 0x43) (withCpu (fun c => { c with a := 0x42 }) (wramState []))
    (fun t => (t.cpu.a, t.cpu.f)) = some (0x42#8, 0x70#8) := by decide

/-- V42-16, V42-19: INC and DEC keep C. -/
theorem test_inc_dec_keep_c :
    ran .incA (withCpu (fun c => { c with a := 0xFF, f := 0x10 }) (wramState [])) (fun t => (t.cpu.a, t.cpu.f)) =
      some (0x00#8, 0xB0#8) ∧
    ran .decB (withCpu (fun c => { c with b := 0x00, f := 0x10 }) (wramState [])) (fun t => (t.cpu.b, t.cpu.f)) =
      some (0xFF#8, 0x70#8) := by decide

/-- V42-20: INC (HL). -/
theorem test_inc_ind_hl : ran .incIndHl (withCpu (fun c => { c with h := 0xC0, l := 0x00 }) (wramState [0xFF]))
    (fun t => (memRead t 0xC000, t.cpu.f, t.cycles)) = some (0x00#8, 0xA0#8, 12) := by decide

/-- V43-3: the low byte of SP is stored first. -/
theorem test_ld_ind_nn_sp : ran (.ldIndNnSp 0xC000) (withCpu (fun c => { c with sp := 0xABCD }) (wramState []))
    (fun t => (memRead t 0xC000, memRead t 0xC001)) = some (0xCD#8, 0xAB#8) := by decide

/-- V43-8: PUSH at SP = 1 writes the ROM (ignored) and IE. -/
theorem test_push_wraps : ran .pushBc (withCpu (fun c => { c with b := 0xAA, c := 0xBB, sp := 0x0001 }) (wramState []))
    (fun t => (t.cpu.sp, t.mem.ie)) = some (0xFFFF#16, 0xBB#8) := by decide

/-- V43-6: POP AF drops the low nibble of F. -/
theorem test_pop_af : ran .popAf (withCpu (fun c => { c with sp := 0xC000 }) (wramState [0xFF, 0x00]))
    (fun t => (t.cpu.a, t.cpu.f, t.cpu.sp)) = some (0x00#8, 0xF0#8, 0xC002#16) := by decide

/-- V44-2: ADD HL keeps Z and takes H from bit 11. -/
theorem test_add_hl : ran .addHlBc
    (withCpu (fun c => { c with f := 0x80, b := 0x00, c := 0x01, h := 0x0F, l := 0xFF }) (wramState []))
    (fun t => (t.hl, t.cpu.f)) = some (0x1000#16, 0xA0#8) := by decide

/-- V44-9, V43-12: the carries of a signed displacement are those of the low byte. -/
theorem test_sp_displacement :
    ran (.addSpE8 0xFF) (withCpu (fun c => { c with sp := 0x0001 }) (wramState [])) (fun t => (t.cpu.sp, t.cpu.f)) =
      some (0x0000#16, 0x30#8) ∧
    ran (.ldHlSpE8 0x01) (withCpu (fun c => { c with sp := 0x00FF }) (wramState [])) (fun t => (t.hl, t.cpu.f)) =
      some (0x0100#16, 0x30#8) := by decide

/-- V45-2, V45-6: RLCA clears Z; RRA shifts the carry in. -/
theorem test_rotate_a :
    ran .rlca (withCpu (fun c => { c with a := 0x00, f := 0x80 }) (wramState [])) (fun t => (t.cpu.a, t.cpu.f)) =
      some (0x00#8, 0x00#8) ∧
    ran .rra (withCpu (fun c => { c with a := 0x01, f := 0x10 }) (wramState [])) (fun t => (t.cpu.a, t.cpu.f)) =
      some (0x80#8, 0x10#8) := by decide

/-- V46-6, by a whole step: JR -2 comes back to itself. -/
theorem test_jr_back : after (wramState [0x18, 0xFE]) (fun t => (t.cpu.pc, t.cycles)) = some (0xC000#16, 12) := by decide

/-- V46-11: JR NC not taken. -/
theorem test_jr_not_taken : after (withCpu (fun c => { c with f := 0x10 }) (wramState [0x30, 0xFE]))
    (fun t => (t.cpu.pc, t.cycles)) = some (0xC002#16, 8) := by decide

/-- V47-1, by a whole step: CALL pushes the address of the next instruction, the high byte at the higher address. -/
theorem test_call : after (wramState [0xCD, 0x00, 0x02])
    (fun t => (t.cpu.pc, t.cpu.sp, memRead t 0xCFFE, memRead t 0xCFFF, t.cycles)) =
      some (0x0200#16, 0xCFFE#16, 0x03#8, 0xC0#8, 24) := by decide

/-- V47-7: RETI sets `ime` at once. -/
theorem test_reti : ran .reti (withCpu (fun c => { c with sp := 0xC000 }) (wramState [0x03, 0x01]))
    (fun t => (t.cpu.pc, t.cpu.sp, t.cpu.ime)) = some (0x0103#16, 0xC002#16, true) := by decide

/-- V48-9, V48-13: DAA after an addition and after a subtraction. -/
theorem test_daa :
    ran .daa (withCpu (fun c => { c with a := 0x9A, f := 0x00 }) (wramState [])) (fun t => (t.cpu.a, t.cpu.f)) =
      some (0x00#8, 0x90#8) ∧
    ran .daa (withCpu (fun c => { c with a := 0x9A, f := 0x70 }) (wramState [])) (fun t => (t.cpu.a, t.cpu.f)) =
      some (0x34#8, 0x50#8) := by decide

/-- V48-17: an illegal opcode costs 4 cycles. -/
theorem test_illegal : after (wramState [0xD3]) (fun t => (t.cpu.pc, t.cpu.locked, t.cycles)) =
    some (0xC001#16, false, 4) := by decide

/-- V49-4, V49-8: RR with the carry; SWAP of 0. -/
theorem test_cb_shifts :
    ran .rrE (withCpu (fun c => { c with e := 0x01, f := 0x10 }) (wramState [])) (fun t => (t.cpu.e, t.cpu.f)) =
      some (0x80#8, 0x10#8) ∧
    ran .swapA (withCpu (fun c => { c with a := 0x00, f := 0x10 }) (wramState [])) (fun t => (t.cpu.a, t.cpu.f)) =
      some (0x00#8, 0x80#8) := by decide

/-- V49-14: SET 3,(HL) keeps the flags. -/
theorem test_set_ind_hl : ran .set3IndHl (withCpu (fun c => { c with h := 0xC0, l := 0x00, f := 0xF0 }) (wramState [0x00]))
    (fun t => (memRead t 0xC000, t.cpu.f, t.cycles)) = some (0x08#8, 0xF0#8, 16) := by decide

/-- VI-1: a dispatch of the interrupt of highest priority. -/
theorem test_dispatch :
    after (withByte 0xFFFF 0x1F (withByte 0xFF0F 0x1F (withCpu (fun c => { c with ime := true }) (wramState [0x00]))))
      (fun t => (t.cpu.pc, t.cpu.sp, t.cpu.ime, t.io Io.intFlag, memRead t 0xCFFE, memRead t 0xCFFF)) =
      some (0x0040#16, 0xCFFE#16, false, 0x1E#8, 0x00#8, 0xC0#8) := by decide

/-- VI-6: HALT's release without `ime` runs the next instruction in the same step. -/
theorem test_halt_release :
    after (withByte 0xFFFF 0x04 (withByte 0xFF0F 0x04
        (withCpu (fun c => { c with halted := true, a := 0x01 }) (wramState [0x3C]))))
      (fun t => (t.cpu.a, t.cpu.halted, t.io Io.intFlag)) = some (0x02#8, false, 0x04#8) := by decide

/-! ## Devices, with the results of 95_test_vectors.md -/

/-- VB-7, VB-9. -/
theorem test_io_masks :
    memRead (withByte 0xFF41 0xFF State.reset) 0xFF41 = 0xFD#8 ∧
    memRead (withByte 0xFF26 0x80 State.reset) 0xFF26 = 0xF0#8 := by decide

/-- VM-4, VM-13, VM-17: the bank registers. -/
theorem test_mappers :
    (withByte 0x2000 0x20 (withCart .mbc1 id)).cart.romBank = 1#9 ∧
    (withByte 0x2000 0x85 (withCart .mbc3 id)).cart.romBank = 5#9 ∧
    (withByte 0x2000 0x05 (withCart .mbc5 (fun c => { c with romBank := 0x100 }))).cart.romBank = 0x105#9 := by decide

/-- VT-8, VT-10: several TIMA periods in one tick. -/
theorem test_tima :
    (let t := timerTick 48 (withByte 0xFF07 0x05 (withByte 0xFF06 0xFF (withByte 0xFF05 0xFF State.reset)))
     (t.io Io.tima, t.io Io.intFlag)) = (0xFF#8, 0x04#8) ∧
    (let t := timerTick 40 (withByte 0xFF07 0x05 State.reset)
     (t.io Io.tima, t.timer.timaCycles)) = (0x02#8, 8) := by decide

/-- VJ-2, VJ-7: a press requests interrupt 4, a held button does not. -/
theorem test_joypad :
    (let t := setButton .right true (withByte 0xFF00 0x20 State.reset)
     (memRead t 0xFF00, t.io Io.intFlag)) = (0xEE#8, 0x10#8) ∧
    (setButton .a true { State.reset with joypad := { Joypad.zero with a := true } }).io Io.intFlag = 0x00#8 := by decide

/-- VA-5: a trigger of channel 2. -/
theorem test_trigger :
    (let t := withByte 0xFF19 0x80 (withByte 0xFF17 0xF0 (withByte 0xFF26 0x80 State.reset))
     (memRead t 0xFF26, t.apu.ch2.frequencyTimer)) = (0xF2#8, 8192) := by decide

/-- VA-1, VA-2, VA-3, VA-6: the length loads, and a DAC that goes off. -/
theorem test_register_writes :
    (let f := fun v => (withByte 0xFF16 v State.reset).apu.ch2.lengthCounter
     let g := fun v => (withByte 0xFF1B v State.reset).apu.ch3.lengthCounter
     (f 0x3F, f 0x00, g 0x00, g 0xFF)) = (1, 64, 256, 1) ∧
    memRead (withByte 0xFF17 0x00 (withByte 0xFF19 0x80 (withByte 0xFF17 0xF0 (withByte 0xFF26 0x80 State.reset)))) 0xFF26 =
      0xF0#8 := by decide

/-- VP-2, VP-3: the HBlank and the OAM request of line 0, which starts 456 cycles after reset. -/
theorem test_stat_requests :
    (let f := fun v n => let t := ppuTick n (withByte 0xFF41 v State.reset)
       (t.io Io.intFlag, t.io Io.stat)
     (f 0x20 455 |>.1, f 0x20 456, f 0x08 707 |>.1)) = (0x00#8, (0x02#8, 0xA6#8), 0x00#8) := by decide

/-- VA-17, VA-18: the LFSR. -/
theorem test_lfsr : lfsrStep true 0x7FFF = 0x3FBF#15 ∧ lfsrStep false 0x0001 = 0x4000#15 ∧ lfsrStep true 0x0001 = 0x4040#15 := by
  decide

/-- VA-8, VA-9: the length tick at step 0 disables a channel with length enabled, and no other. -/
theorem test_length :
    (let s := withByte 0xFF17 0xF0 (withByte 0xFF16 0x3F (withByte 0xFF26 0x80 State.reset))
     let f := fun v => (frameSequencerTick 8192 (withByte 0xFF19 v s)).apu.ch2
     ((f 0xC0).lengthCounter, (f 0xC0).enabled, (f 0x80).lengthCounter, (f 0x80).enabled)) = (0, false, 1, true) := by decide

/-- VA-25, VA-26: a frame of channel 2, to both sides and to the left only. -/
theorem test_mixing :
    (let s := { State.reset with apu := { State.reset.apu with
        ch2 := { State.reset.apu.ch2 with enabled := true, duty := 2, envelope := { State.reset.apu.ch2.envelope with volume := 15 } } } }
     let f := fun nr51 nr50 k => (sampleTick 128 (withByte 0xFF24 nr50 (withByte 0xFF25 nr51 s))).apu.buffer.read k
     (f 0x22 0x77 0, f 0x22 0x77 1, f 0x20 0x70 0, f 0x20 0x70 1)) = (105#16, 105#16, 105#16, 0#16) := by decide

/-- VC-5, VC-6: the map wraps at 256 under SCX, and the window starts at column WX - 7. -/
theorem test_scroll_and_window :
    (let s := withByte 0xFF43 0xFF (withByte 0xFF47 0xE4 (withByte 0x8001 0x01 (withByte 0x8000 0x80 State.reset)))
     (linePixel s 0 [] 0, linePixel s 0 [] 1, linePixel s 0 [] 2)) = (0x2#2, 0x1#2, 0x0#2) ∧
    (let s := withByte 0xFF4B 0x0A (withByte 0x9C00 0x01 (withByte 0x8011 0xFF (withByte 0x8010 0xFF
        (withByte 0xFF47 0xE4 (withByte 0xFF40 0xF1 State.reset)))))
     (linePixel s 0 [] 2, linePixel s 0 [] 3)) = (0x0#2, 0x3#2) := by decide

/-- VC-14, VC-15: X-flip and Y-flip. -/
theorem test_sprite_flips :
    (let f := fun flags (tile : List Byte) ly x => spriteIndex { State.reset with mem := { State.reset.mem with
        vram := Cells.ofList 16 tile, oam := Cells.ofList 0 [0x10, 0x08, 0x01, flags] } } ly 0 x
     (f 0x20 [0x80, 0, 0x80, 0] 0 7, f 0x20 [0x80, 0, 0x80, 0] 0 0, f 0x40 [0xFF, 0] 0 0, f 0x40 [0xFF, 0] 7 0)) =
      (some 1#2, some 0#2, some 0#2, some 1#2) := by decide

/-- VC-3: bit 7 is leftmost and the second byte gives the high bit. -/
theorem test_tile_pixel :
    (let s := withByte 0xFF47 0xE4 (withByte 0x8001 0x01 (withByte 0x8000 0x80 State.reset))
     (linePixel s 0 [] 0, linePixel s 0 [] 1, linePixel s 0 [] 7)) = (0x1#2, 0x0#2, 0x2#2) := by decide

/-! ## Where the hypotheses of the obligations are met: a state and operands for each, and for each clause -/

theorem witness_EncodeDecode : decode [0x3E, 0x45, 0x99] = .ok (.ldAN 0x45, [0x99]) := rfl

theorem witness_IllegalOpcodes :
    decodeBytes 0xD3 0 0 = Instr.illegal .opD3 ∧ decodeBytes 0xFD 0xFF 0xFF = Instr.illegal .opFD := by decide

theorem witness_RegisterLoads : Operand8.b ≠ .indHl ∧ Operand8.a ≠ .indHl := by decide

theorem witness_ByteStores : Operand8.l ≠ .indHl := by decide

theorem witness_PushPop : StackPair.hl ≠ .af := by decide

theorem witness_PushThenPop :
    FlagsClean (wramState []) ∧ inRam ((wramState []).cpu.sp - 1) = true ∧ inRam ((wramState []).cpu.sp - 2) = true :=
  ⟨by unfold FlagsClean; decide, by decide, by decide⟩

theorem witness_RotatesOfA : (Instr.rra, 0x1F#8, RotOp.rr) ∈
    [(Instr.rlca, 0x07#8, RotOp.rlc), (.rrca, 0x0F, .rrc), (.rla, 0x17, .rl), (.rra, 0x1F, .rr)] := by decide

/-- Both outcomes of a condition, for Jumps, Calls and Returns. -/
theorem witness_conditions :
    (CondTrue .nz (wramState []) ∧ ¬CondTrue .z (wramState [])) ∧ (CondTrue .nc (wramState []) ∧ ¬CondTrue .c (wramState [])) := by
  unfold CondTrue; decide

/-- Both directions of DAA. -/
theorem witness_AccumulatorAdjust : (wramState []).fn = false ∧ (withCpu (fun c => { c with f := 0x40 }) (wramState [])).fn = true := by
  decide

theorem witness_DecimalArithmetic : (99 < 100 ∧ 1 < 100) ∧ (withCpu (fun c => { c with a := 0x99 }) (wramState [])).cpu.a = bcd 99 := by
  decide

/-- An instruction that runs, for the rules about every instruction (ControlBits, PointerWriters, DevicesFrozen). -/
theorem witness_instruction_rules :
    exec .nop State.reset = .next (State.reset.withCycles 4) ∧ Instr.nop ≠ .halt ∧ Instr.nop ≠ .di ∧ Instr.nop ≠ .ei ∧
      Instr.nop ≠ .reti ∧ FlagsClean State.reset :=
  ⟨rfl, by decide, by decide, by decide, by decide, by unfold FlagsClean; decide⟩

theorem witness_instruction_writes_no_pointer : ¬WritesSp .nop ∧ ¬Branches .nop := by
  unfold WritesSp Branches
  constructor <;> intro h
  · rcases h with ⟨x, h⟩ | h | h | h | ⟨x, h⟩ | ⟨x, h⟩ | ⟨x, h⟩ | ⟨x, h⟩ | ⟨x, y, h⟩ | h | ⟨x, h⟩ | h | ⟨x, h⟩ <;>
      first
      | (cases h)
      | (cases x <;> cases h)
      | (cases y <;> cases h)
  · rcases h with ⟨x, h⟩ | ⟨x, y, h⟩ | ⟨x, h⟩ | ⟨x, y, h⟩ | h | ⟨x, h⟩ | ⟨x, y, h⟩ | h | ⟨x, h⟩ | h | ⟨x, h⟩ <;>
      first
      | (cases h)
      | (cases x <;> cases h)
      | (cases y <;> cases h)

theorem witness_StepRunsInstruction :
    interruptTaken (wramState [0x00]) = false ∧ (promoteIme (releaseHalt (wramState [0x00]))).cpu.locked = false ∧
      (promoteIme (releaseHalt (wramState [0x00]))).cpu.halted = false ∧
      (promoteIme (releaseHalt (wramState [0x00]))).cpu.haltBug = false ∧
      decode (bytesAtPc (wramState [0x00])) = .ok (.nop, [0x00, 0x00]) := ⟨by decide, by decide, by decide, by decide, rfl⟩

theorem witness_StepDispatches :
    (let s := withByte 0xFFFF 0x10 (withByte 0xFF0F 0x10 (withCpu (fun c => { c with ime := true }) (wramState [])))
     s.cpu.locked = false ∧ s.cpu.ime = true ∧ s.io Io.intFlag &&& s.mem.ie &&& 0x1F#8 ≠ 0#8) := by decide

theorem witness_HaltedStep_waits :
    (let s := withCpu (fun c => { c with halted := true }) (wramState [])
     s.cpu.halted = true ∧ s.cpu.locked = false ∧ s.cpu.imeScheduled = false ∧
       s.io Io.intFlag &&& s.mem.ie &&& 0x1F#8 = 0#8) := by decide

theorem witness_HaltedStep_released :
    (let s := withByte 0xFFFF 0x01 (withByte 0xFF0F 0x01 (withCpu (fun c => { c with halted := true }) (wramState [])))
     s.cpu.halted = true ∧ s.cpu.locked = false ∧ s.cpu.imeScheduled = false ∧
       s.io Io.intFlag &&& s.mem.ie &&& 0x1F#8 ≠ 0#8 ∧ s.cpu.ime = false) := by decide

theorem witness_EiDelay :
    (let s := wramState [0xFB]
     s.cpu.ime = false ∧ s.cpu.imeScheduled = false ∧ s.cpu.locked = false ∧ s.cpu.halted = false ∧ s.cpu.haltBug = false ∧
       memRead s s.cpu.pc = 0xFB#8 ∧ (after s fun t => t.cpu.imeScheduled) = some true) := by decide

/-- Every step answers a next state, so the other premise of StepKeepsInv is met from the same state. -/
theorem witness_StepKeepsInv : Inv (wramState [0x00]) ∧ (after (wramState [0x00]) fun t => t.cpu.pc) = some 0xC001#16 := by
  refine ⟨⟨by unfold FlagsClean; decide, ⟨rfl, rfl⟩, ⟨cellsOk_nil, ⟨Cells.wf_ofList _ _, by decide⟩, cellsOk_nil,
    memoryOk_reset.2.2.2.1, cellsOk_nil, cellsOk_nil, cellsOk_nil⟩, ⟨cellsOk_nil, cellsOk_nil, by decide⟩, trivial, rfl,
    by unfold ChannelsOk; decide, by unfold ClocksOk; decide⟩, by decide⟩

theorem witness_WriteFrame :
    (let a := 0xFF40#16
     let b := 0xC000#16
     b ≠ a ∧ ¬(a.toNat < 0x8000 ∧ (b.toNat < 0x8000 ∨ 0xA000 ≤ b.toNat ∧ b.toNat < 0xC000)) ∧
       ¬(0xC000 ≤ a.toNat ∧ a.toNat < 0xFE00 ∧ 0xC000 ≤ b.toNat ∧ b.toNat < 0xFE00 ∧
         (b.toNat = a.toNat + 0x2000 ∨ a.toNat = b.toNat + 0x2000)) ∧
       ¬(a = 0xFF46#16 ∧ 0xFE00 ≤ b.toNat ∧ b.toNat < 0xFEA0) ∧
       ¬(0xFF10 ≤ a.toNat ∧ a.toNat < 0xFF40 ∧ b = 0xFF26#16) ∧
       ¬((a = 0xFF40#16 ∨ a = 0xFF41#16) ∧ 0x8000 ≤ b.toNat ∧ b.toNat < 0xA000)) := by decide

/-- The clauses of RamAndEcho at the ends of their ranges. -/
theorem witness_RamAndEcho :
    (0xC000 ≤ (0xFE9F#16).toNat ∧ (0xFE9F#16).toNat < 0xFEA0) ∧ 0xFF80 ≤ (0xFFFF#16).toNat ∧
    (0xC000 ≤ (0xDDFF#16).toNat ∧ (0xDDFF#16).toNat < 0xDE00) ∧
    (0xDE00 ≤ (0xDE00#16).toNat ∧ (0xDE00#16).toNat < 0xE000 ∧ 0xFE00#16 ≠ 0xDE00#16) ∧
    (0xFEA0 ≤ (0xFEFF#16).toNat ∧ (0xFEFF#16).toNat < 0xFF00) ∧
    (0x8000 ≤ (0x8000#16).toNat ∧ (0x8000#16).toNat < 0xA000) ∧ (0x8000 ≤ (0x9FFF#16).toNat ∧ (0x9FFF#16).toNat < 0xA000) ∧
    (withByte 0xFF40 0x11 State.reset).lcdc 7 = false ∧ State.reset.ppuMode ≠ 3#2 ∧
    (State.reset.setIo Io.stat 0x87).lcdc 7 = true ∧ (State.reset.setIo Io.stat 0x87).ppuMode = 3#2 := by decide

/-- The last two clauses of RamAndEcho: the open parameter of VRAM reads has one of the two values. -/
theorem witness_RamAndEcho_parameter : Config.vramMode3Read = .passThrough ∨ Config.vramMode3Read = .returnFF := by
  cases Config.vramMode3Read <;> decide

/-- What RamAndEcho and IoWrites say at those ends. -/
theorem test_ram_boundaries :
    memRead (withByte 0xFE9F 0x5A State.reset) 0xFE9F = 0x5A#8 ∧ memRead (withByte 0xFDFF 0x5A State.reset) 0xDDFF = 0x5A#8 ∧
    memRead (withByte 0xDE00 0x5A State.reset) 0xFE00 = 0x00#8 ∧ memRead (withByte 0xFEFF 0x5A State.reset) 0xFEFF = 0xFF#8 ∧
    memRead (withByte 0x9FFF 0x5A State.reset) 0x9FFF = 0x5A#8 ∧
    memRead (withByte 0xFF10 0x5A State.reset) 0xFF10 = 0x5A#8 ∧ memRead (withByte 0xFF3F 0x5A State.reset) 0xFF3F = 0x5A#8 ∧
    memRead (withByte 0xFF01 0x5A State.reset) 0xFF01 = 0x5A#8 ∧ memRead (withByte 0xFF7F 0x5A State.reset) 0xFF7F = 0x5A#8 := by
  decide

/-- The clauses of IoWrites: DIV, STAT, the last plain IO byte, DMA, and the ends of the APU's range. -/
theorem witness_IoWrites :
    (let h := fun a : Word => 0xFF00 < a.toNat ∧ a.toNat < 0xFF80 ∧ a ≠ 0xFF26#16
     let plain := fun a : Word => h a ∧ a ≠ 0xFF04#16 ∧ a ≠ 0xFF41#16
     h 0xFF04#16 ∧ h 0xFF41#16 ∧ plain 0xFF46#16 ∧ plain 0xFF10#16 ∧ plain 0xFF3F#16 ∧
       (plain 0xFF7F#16 ∧ 0xFF7F#16 ≠ 0xFF46#16 ∧ ¬(0xFF10 ≤ (0xFF7F#16).toNat ∧ (0xFF7F#16).toNat < 0xFF40))) := by decide

/-- A cartridge of each mapper, and an address at an end of each clause of MapperWrites. -/
theorem witness_MapperWrites :
    (withCart .none id).cart.mapper = .none ∧ (withCart .mbc1 id).cart.mapper = .mbc1 ∧
    (withCart .mbc3 id).cart.mapper = .mbc3 ∧ (withCart .mbc5 id).cart.mapper = .mbc5 ∧
    (withCart .mbc1 id).cart.mbcMode = false ∧ (withCart .mbc1 (fun c => { c with mbcMode := true })).cart.mbcMode = true ∧
    0x1FFF < 0x2000 ∧ (0x2000 ≤ 0x3FFF ∧ 0x3FFF < 0x4000) ∧ (0x4000 ≤ 0x5FFF ∧ 0x5FFF < 0x6000) ∧
    (0x2000 ≤ 0x2FFF ∧ 0x2FFF < 0x3000) ∧ (0x3000 ≤ 0x3000 ∧ 0x3000 < 0x4000) ∧ (0x6000 ≤ 0x7FFF ∧ 0x7FFF < 0x8000) ∧
    (0x7FFF#16).toNat < 0x8000 := by
  decide

/-- The clauses of CartridgeWindows: both ROM windows, RAM disabled, RAM enabled at its last byte. -/
theorem witness_CartridgeWindows :
    (0x3FFF#16).toNat < 0x4000 ∧ (0x4000 ≤ (0x7FFF#16).toNat ∧ (0x7FFF#16).toNat < 0x8000) ∧
    (0xA000 ≤ (0xBFFF#16).toNat ∧ (0xBFFF#16).toNat < 0xC000) ∧ (withCart .mbc5 id).cart.ramEnabled = false ∧
    (let c := (withCart .mbc5 (fun c => { c with ramEnabled := true, ramBank := 3 })).cart
     c.ramEnabled = true ∧ c.ramBank.toNat * 0x2000 + ((0xBFFF#16).toNat - 0xA000) < c.ramSize) := by decide

/-- The clauses of TimaCounts: disabled, no wrap at the last count, the first wrap, the wrap at each count (TMA 0xFF). -/
theorem witness_TimaCounts :
    bitOf (State.reset.io Io.tac) 2 = false ∧
    (let s := withByte 0xFF07 0x05 State.reset
     bitOf (s.io Io.tac) 2 = true ∧ (s.io Io.tima).toNat + (s.timer.timaCycles + 4080) / timerPeriod (s.io Io.tac) < 256 ∧
       256 ≤ (s.io Io.tima).toNat + (s.timer.timaCycles + 4096) / timerPeriod (s.io Io.tac) ∧
       (s.io Io.tima).toNat + (s.timer.timaCycles + 4096) / timerPeriod (s.io Io.tac) < 256 + (256 - (s.io Io.tma).toNat)) ∧
    (let s := withByte 0xFF07 0x05 (withByte 0xFF06 0xFF (withByte 0xFF05 0xFF State.reset))
     bitOf (s.io Io.tac) 2 = true ∧ 256 - (s.io Io.tma).toNat = 1 ∧
       256 + 2 ≤ (s.io Io.tima).toNat + (s.timer.timaCycles + 48) / timerPeriod (s.io Io.tac)) := by
  decide

theorem witness_PpuSignals : (withByte 0xFF40 0x11 State.reset).lcdc 7 = false := by decide

/-- A line's start in mode 2, with LY as given. -/
def lineState (ly : Byte) : State := (State.reset.setIo Io.stat 0x86).setIo Io.ly ly

/-- LineTiming: each mode with the LCD on, and LY at the ends of the ranges; the start of lines 142 and 143. -/
theorem witness_LineTiming :
    (let m := fun stat ly : Byte => (State.reset.setIo Io.stat stat).setIo Io.ly ly
     (m 0x86 0).lcdc 7 = true ∧ (m 0x86 0).ppuMode = 2#2 ∧
     ((m 0x87 143).ppuMode = 3#2 ∧ ((m 0x87 143).io Io.ly).toNat < 144) ∧
     ((m 0x87 144).ppuMode = 3#2 ∧ 144 ≤ ((m 0x87 144).io Io.ly).toNat) ∧
     ((m 0x84 142).ppuMode = 0#2 ∧ (m 0x84 142).io Io.ly ≠ 143#8 ∧ (m 0x84 143).io Io.ly = 143#8) ∧
     ((m 0x85 144).ppuMode = 1#2 ∧ 144 ≤ ((m 0x85 144).io Io.ly).toNat ∧ ((m 0x85 152).io Io.ly).toNat < 153) ∧
     ((m 0x85 143).io Io.ly).toNat < 144 ∧ 153 ≤ ((m 0x85 153).io Io.ly).toNat) ∧
    (lineStart (lineState 142) 142 ∧ 142 < 144 ∧ 142 < 143) ∧ lineStart (lineState 143) 143 ∧ 143 < 144 := by
  unfold lineStart; decide

/-- ModeEnds, which LineTiming is about: a mode that goes on and one that ends. -/
theorem witness_ModeEnds : State.reset.ppu.scanlineCycles + 79 < 80 ∧ 80 ≤ State.reset.ppu.scanlineCycles + 80 := by decide

theorem witness_FrameTiming : lineStart (lineState 0) 0 := by unfold lineStart; decide

theorem witness_LineKept : LineOk (lineState 143) ∧ LineOk (State.reset.setIo Io.ly 153) := by unfold LineOk; decide

/-- RenderRow: the last line and column; the background off and on; the window from column 159 on, covering the last column
and not the one before it. -/
theorem witness_RenderRow :
    143 < 144 ∧ 159 < 160 ∧ (withByte 0xFF40 0x90 State.reset).lcdc 0 = false ∧ State.reset.lcdc 0 = true ∧
    (let s := withByte 0xFF4B 0xA6 (withByte 0xFF4A 0x8F (withByte 0xFF40 0xB1 State.reset))
     s.lcdc 5 = true ∧ (s.io Io.wy).toNat ≤ 143 ∧ (s.io Io.wx).toNat ≤ 166 ∧ (s.io Io.wx).toNat ≤ 159 + 7 ∧
       ¬(s.io Io.wx).toNat ≤ 158 + 7) := by decide

/-- Two sprites on line 0 at overlapping columns, sprite 1 further left; tile 1 is solid. -/
def spriteState : State :=
  let s := State.reset.setIo Io.lcdc 0x93
  { s with mem := { s.mem with
      vram := Cells.ofList 16 [0xFF, 0xFF]
      oam := Cells.ofList 0 [0x10, 0x14, 0x01, 0x00, 0x10, 0x10, 0x01, 0x00] } }

/-- SpriteSelection: a state with sprites off; a sprite on the line; and, with eleven on it, one left out. -/
theorem witness_SpriteSelection :
    State.reset.lcdc 1 = false ∧ spriteState.lcdc 1 = true ∧ selectSprites spriteState 0 = [0, 1] ∧
    (let s := { spriteState with mem := { spriteState.mem with oam := Cells.ofList 0 ((List.range 44).map fun k => if k % 4 = 0 then 0x10 else 0) } }
     s.lcdc 1 = true ∧ 10 < 40 ∧ (s.oamAt 40).toNat ≤ 0 + 16 ∧ 0 + 16 < (s.oamAt 40).toNat + 8 ∧ 10 ∉ selectSprites s 0) := by
  decide

/-- SpritePriorityRule: at column 12 both sprites show and sprite 1 has the lower X; at column 0 none shows. -/
theorem witness_SpritePriorityRule :
    (spriteShows spriteState 0 12 0 1 3 ∧ spriteShows spriteState 0 12 0 0 3 ∧
      (spriteState.oamAt 5).toNat < (spriteState.oamAt 1).toNat) ∧
    spriteIndex spriteState 0 0 0 = none ∧ spriteIndex spriteState 0 1 0 = none ∧
    (0 ∈ selectSprites spriteState 0 ∧ 7 < 8 ∧ 19 + 8 = (spriteState.oamAt 1).toNat + 7) ∧
    (∀ c, c < 8 → 20 + 8 ≠ (spriteState.oamAt 1).toNat + c) := by
  unfold spriteShows; decide

/-- MasterControl: its range without NR52, and a write of each class that does not trigger. -/
theorem witness_MasterControl :
    (0x10 ≤ 0x10 ∧ 0x3F < 0x40 ∧ 0x25 ≠ 0x26 ∧ 0x27 ≠ 0x26) ∧ (0x7F#8).getLsbD 7 = false ∧ 0x11 ∈ [0x11, 0x12, 0x13] ∧
      0x18 ∈ [0x16, 0x17, 0x18] ∧ 0x25 ∈ [0x15, 0x1F, 0x24, 0x25] ∧ 0x27 ≤ 0x27 := by decide

theorem witness_Triggers : (0x80#8).getLsbD 7 = true := by decide

/-- SweepAndEnvelope: the last cycle before a sequencer step and the first of one, a step of each kind, a sweep and an
envelope that wait, an overflow, a write back, a shift of 0, and both kinds of envelope period. -/
theorem witness_SweepAndEnvelope :
    (State.reset.apu.frameSequencerCycles + 8191 < 8192 ∧ 8192 ≤ State.reset.apu.frameSequencerCycles + 8192) ∧
    (let n := fun k : BitVec 3 => { State.reset.apu with frameSequencerStep := k }.frameSequencerStep.toNat
     n 0 ∈ [0, 4] ∧ n 5 ∈ [1, 3, 5] ∧ n 6 ∈ [2, 6] ∧ n 7 = 7) ∧
    (State.reset.apu.sweep.period = 0 ∧ 1 < { State.reset.apu.sweep with timer := 2, period := 1 }.timer) ∧
    (let sw : Sweep := { timer := 1, period := 1, negate := false, shift := 1, shadowFrequency := 0x700 }
     sw.period ≠ 0 ∧ sw.timer ≤ 1 ∧ 2047 < sw.newFrequency ∧ { sw with negate := true }.newFrequency ≤ 2047 ∧ sw.shift ≠ 0 ∧
       { sw with shift := 0, shadowFrequency := 0x3FF }.newFrequency ≤ 2047) ∧
    (let e : Envelope := { volume := 0, timer := 1, period := 1, increase := false }
     e.period ≠ 0 ∧ e.timer ≤ 1 ∧ { e with period := 0 }.period = 0 ∧ 1 < { e with timer := 2 }.timer) := by decide

theorem witness_FrequencyTimers : 0 < 8192 ∧ advanceTimer 4 12 4 = (4, 3) ∧ advanceTimer 4 3 4 = (1, 0) := by decide

/-- SampleClock: the buffer has room, a tick of 128 cycles writes frame 0, and the channels of the reset state are disabled. -/
theorem witness_SampleClock :
    State.reset.apu.writePos ≤ 2048 ∧ State.reset.apu.writePos ≤ 0 ∧ 0 < (sampleTick 128 State.reset).apu.writePos ∧
      State.reset.apu.ch1.enabled = false ∧ State.reset.apu.ch2.enabled = false ∧
      State.reset.apu.ch3.enabled = false ∧ State.reset.apu.ch4.enabled = false := by decide

theorem witness_HostLoads : ([0x00, 0x01] : List Byte).length ≤ 8388608 ∧ 8388608 < (List.replicate 8388609 (0 : Byte)).length :=
  ⟨by decide, by rw [List.length_replicate]; decide⟩

/-- The clauses of HostLoads on the header: each mapper's bytes at the ends of their ranges, a byte of no mapper, and a title
that ends before 16 bytes (R118, R119, R573). -/
theorem test_header :
    (mapperOfType 0x01 = .mbc1 ∧ mapperOfType 0x03 = .mbc1 ∧ mapperOfType 0x0F = .mbc3 ∧ mapperOfType 0x13 = .mbc3 ∧
      mapperOfType 0x19 = .mbc5 ∧ mapperOfType 0x1E = .mbc5 ∧ mapperOfType 0x05 = .none) ∧
    (ramSizeOfByte 0x02 = 8192 ∧ ramSizeOfByte 0x06 = 0) ∧
    titleOf (List.replicate 0x134 0 ++ [0x41, 0x42, 0x00, 0x43]) = [0x41#8, 0x42#8] := by decide

/-! ## Planting an instruction: the next step runs it as the first after reset -/

theorem test_withFetchWord :
    after (State.reset.withFetchWord 8 0x3C) (fun t => (t.cpu.a, t.cpu.pc)) = some (0x02#8, 0x0101#16) ∧
    after (State.reset.withFetchWord 16 0x37CB) (fun t => (t.cpu.a, t.cpu.pc)) = some (0x10#8, 0x0102#16) := by decide

theorem test_decodeTableWord : decodeTableWord 24 0x1234C3 = some (.jpNn 0x1234) := by decide

end Sys2Proof.Tests
end

section
/-! PROOFS. The statements about the state as a whole (10_state.md): which instructions write the control bits and the
pointers, the invariant of the machine under a step, and what a write to an IO byte or to an APU register leaves. -/

namespace Sys2Proof.Machine

/-! ## The control bits and the pointers (R33, R34, R36) -/

/-- The control bits of R36. -/
def Cpu.control (c : Cpu) : Bool × Bool × Bool × Bool × Bool :=
  (c.halted, c.ime, c.imeScheduled, c.locked, c.haltBug)

/-- What most instructions leave alone: the control bits, SP and PC. -/
def Cpu.sequencing (c : Cpu) : (Bool × Bool × Bool × Bool × Bool) × Word × Word := (c.control, c.sp, c.pc)

/-- Which of the control bits, SP and PC the instruction keeps. -/
structure SequencingFrame (i : Instr) (c d : Cpu) : Prop where
  control : i ∈ [Instr.halt, .di, .ei, .reti] ∨ d.control = c.control
  sp : WritesSp i ∨ d.sp = c.sp
  pc : Branches i ∨ d.pc = c.pc

section

variable {i : Instr} {s t : State}

theorem exec_frame_of_sequencing (he : exec i s = .next t) (h : t.cpu.sequencing = s.cpu.sequencing) :
    ∃ t, exec i s = .next t ∧ SequencingFrame i s.cpu t.cpu := by
  simp only [Cpu.sequencing, Prod.mk.injEq] at h
  exact ⟨t, he, .inr h.1, .inr h.2.1, .inr h.2.2⟩

/-- A pair keeps SP unless it is SP (R143). -/
theorem exec_frame_of_setPair {p : Pair} {v : Word} {n : Nat}
    (he : exec i s = .next ((setPair p v s).withCycles n)) (hi : p = .sp → WritesSp i) :
    ∃ t, exec i s = .next t ∧ SequencingFrame i s.cpu t.cpu := by
  cases p with
  | sp => exact ⟨_, he, .inr rfl, .inl (hi rfl), .inr rfl⟩
  | _ => exact exec_frame_of_sequencing he rfl

/-- R311, R314: a conditional jump writes PC or nothing. -/
theorem exec_frame_of_jumpIf {cc : Cond} {target : Word} {m n : Nat}
    (he : exec i s = .next (if condHolds cc s then (s.setPc target).withCycles m else s.withCycles n))
    (hi : Branches i) : ∃ t, exec i s = .next t ∧ SequencingFrame i s.cpu t.cpu := by
  split at he
  · exact ⟨_, he, .inr rfl, .inr rfl, .inl hi⟩
  · exact exec_frame_of_sequencing he rfl

theorem setOperand8_sequencing (r : Operand8) (v : Byte) (s : State) :
    (setOperand8 r v s).cpu.sequencing = s.cpu.sequencing := by
  cases r with
  | indHl => exact congrArg _ (memWrite_cpu ..)
  | _ => rfl

theorem aluOnA_sequencing (op : AluOp) (v : Byte) (s : State) : (aluOnA op v s).cpu.sequencing = s.cpu.sequencing := by
  unfold aluOnA
  split <;> rfl

theorem storeA_cpu (a : Word) (n : Nat) (s : State) : (storeA a n s).cpu = s.cpu := memWrite_cpu ..

theorem storeAStep_sequencing (k : Word) (s : State) : (storeAStep k s).cpu.sequencing = s.cpu.sequencing := by
  simp [storeAStep, Cpu.sequencing, Cpu.control]

theorem storeSp_cpu (nn : Word) (s : State) : (storeSp nn s).cpu = s.cpu := by simp [storeSp]

theorem pushPcAndGo_cpu (a : Word) (s : State) :
    (pushPcAndGo a s).cpu = { s.cpu with sp := s.cpu.sp - 2, pc := a } := by
  simp [pushPcAndGo]

theorem pushPcAndGo_control (a : Word) (s : State) : (pushPcAndGo a s).cpu.control = s.cpu.control := by
  rw [pushPcAndGo_cpu]; rfl

/-- Every instruction, in every state, by its row family. -/
theorem exec_sequencingFrame (i : Instr) (s : State) :
    ∃ t, exec i s = .next t ∧ SequencingFrame i s.cpu t.cpu := by
  induction i using Instr.byFamily with
  -- loads, arithmetic, rotates and bit operations
  | ld8 dst src h => exact exec_frame_of_sequencing (exec_ld8 dst src s h) (setOperand8_sequencing ..)
  | ldImm8 n r => exact exec_frame_of_sequencing (exec_ldImm8 n r s) (setOperand8_sequencing ..)
  | alu8 op r => exact exec_frame_of_sequencing (exec_alu8 op r s) (aluOnA_sequencing ..)
  | aluImm n op => exact exec_frame_of_sequencing (exec_aluImm n op s) (aluOnA_sequencing ..)
  | inc8 r => exact exec_frame_of_sequencing (exec_inc8 r s) (setOperand8_sequencing ..)
  | dec8 r => exact exec_frame_of_sequencing (exec_dec8 r s) (setOperand8_sequencing ..)
  | addHl p => exact exec_frame_of_sequencing (exec_addHl p s) rfl
  | rot op r => exact exec_frame_of_sequencing (exec_rot op r s) (setOperand8_sequencing ..)
  | bit b r => exact exec_frame_of_sequencing (exec_bit b r s) rfl
  | res b r => exact exec_frame_of_sequencing (exec_res b r s) (setOperand8_sequencing ..)
  | set b r => exact exec_frame_of_sequencing (exec_set b r s) (setOperand8_sequencing ..)
  | illegal k => exact exec_frame_of_sequencing (exec_illegal k s) rfl
  | ldIndNnSp nn => exact exec_frame_of_sequencing rfl (congrArg _ (storeSp_cpu ..))
  | ldhIndNA _ | ldIndNnA _ | ldIndBcA | ldIndDeA | ldIndCA =>
    exact exec_frame_of_sequencing rfl (congrArg _ (storeA_cpu ..))
  | ldIndHliA | ldIndHldA => exact exec_frame_of_sequencing rfl (storeAStep_sequencing ..)
  | stop _ | ldhAIndN _ | ldHlSpE8 _ | ldAIndNn _ | nop | rlca | ldAIndBc | rrca | rla | ldAIndDe | rra | daa | ldAIndHli
  | cpl | scf | ldAIndHld | ccf | ldAIndC => exact exec_frame_of_sequencing rfl rfl
  -- the pairs: SP is one of them
  | ldImm16 nn p =>
    exact exec_frame_of_setPair (exec_ldImm16 nn p s) (by rintro rfl; simp [WritesSp, Instr.ldImm16])
  | inc16 p =>
    exact exec_frame_of_setPair (exec_inc16 p s) (by rintro rfl; simp [WritesSp, Instr.inc16])
  | dec16 p =>
    exact exec_frame_of_setPair (exec_dec16 p s) (by rintro rfl; simp [WritesSp, Instr.dec16])
  -- the stack and SP
  | push p =>
    have hc : (pushPair p s).cpu = { s.cpu with sp := s.cpu.sp - 2 } := push16_cpu ..
    exact ⟨_, exec_push p s, .inr (by rw [hc]; rfl), .inl (by simp [WritesSp]), .inr (by rw [hc])⟩
  | pop p =>
    exact ⟨_, exec_pop p s, .inr (by cases p <;> rfl), .inl (by simp [WritesSp]), .inr (by cases p <;> rfl)⟩
  | addSpE8 e | ldSpHl => exact ⟨_, rfl, .inr rfl, .inl (by simp [WritesSp]), .inr rfl⟩
  -- jumps
  | jrE8 e | jpNn nn | jpHl => exact ⟨_, rfl, .inr rfl, .inr rfl, .inl (by simp [Branches])⟩
  | jrCond e cc => exact exec_frame_of_jumpIf (exec_jrCond e cc s) (by simp [Branches])
  | jpCond nn cc => exact exec_frame_of_jumpIf (exec_jpCond nn cc s) (by simp [Branches])
  -- calls and returns
  | callNn nn => exact ⟨_, rfl, .inr (pushPcAndGo_control ..), .inl (by simp [WritesSp]), .inl (by simp [Branches])⟩
  | callCond nn cc =>
    refine ⟨_, exec_callCond nn cc s, .inr ?_, .inl (by simp [WritesSp]), .inl (by simp [Branches])⟩
    unfold callIf
    split
    · exact pushPcAndGo_control ..
    · rfl
  | rst y =>
    exact ⟨_, exec_rst y s, .inr (pushPcAndGo_control ..), .inl (by simp [WritesSp]), .inl (by simp [Branches])⟩
  | ret => exact ⟨_, rfl, .inr rfl, .inl (by simp [WritesSp]), .inl (by simp [Branches])⟩
  | retCond cc =>
    refine ⟨_, exec_retCond cc s, .inr ?_, .inl (by simp [WritesSp]), .inl (by simp [Branches])⟩
    unfold retIf
    split <;> rfl
  -- the four that write control bits
  | reti => exact ⟨_, rfl, .inl (by simp), .inl (by simp [WritesSp]), .inl (by simp [Branches])⟩
  | di | ei | halt => exact ⟨_, rfl, .inl (by simp), .inr rfl, .inr rfl⟩

theorem SequencingFrame.of_exec (h : exec i s = .next t) : SequencingFrame i s.cpu t.cpu := by
  obtain ⟨u, hu, hf⟩ := exec_sequencingFrame i s
  cases h.symm.trans hu
  exact hf

theorem Acts.of_exec (h : exec i s = .next t) : Acts s t := by
  obtain ⟨u, hu, ha⟩ := exec_acts i s
  cases h.symm.trans hu
  exact ha

end

/-- Settles O26: outside HALT, DI, EI and RETI no control bit changes, and those four change the bits they name. -/
theorem controlBits : Obligations.ControlBits := by
  intro i s t h
  obtain hi | hc := (SequencingFrame.of_exec h).control
  · simp only [List.mem_cons, List.not_mem_nil, or_false] at hi
    obtain rfl | rfl | rfl | rfl := hi <;> cases h
    · exact ⟨fun hne => absurd rfl hne, fun _ _ => rfl, fun _ _ _ => rfl, rfl, rfl⟩
    · exact ⟨fun _ => rfl, fun hne => absurd rfl hne, fun hne => absurd rfl hne, rfl, rfl⟩
    · exact ⟨fun _ => rfl, fun _ _ => rfl, fun _ hne => absurd rfl hne, rfl, rfl⟩
    · exact ⟨fun _ => rfl, fun _ hne => absurd rfl hne, fun _ _ hne => absurd rfl hne, rfl, rfl⟩
  · simp only [Cpu.control, Prod.mk.injEq] at hc
    obtain ⟨h1, h2, h3, h4, h5⟩ := hc
    exact ⟨fun _ => h1, fun _ _ => h2, fun _ _ _ => h3, h4, h5⟩

/-- Settles O27, by the frame of the instruction and by what any instruction does to F. -/
theorem pointerWriters : Obligations.PointerWriters := by
  intro i s t h
  have hf := SequencingFrame.of_exec h
  obtain ⟨-, -, -, -, -, hclean, -⟩ := Acts.of_exec h
  exact ⟨hf.sp.resolve_left, hf.pc.resolve_left, hclean⟩

/-! ## The invariant under a step (R75) -/

/-- The parts of the invariant that speak of the CPU alone. -/
def CpuOk (c : Cpu) : Prop := c.f &&& 0x0F#8 = 0#8 ∧ c.locked = false ∧ c.haltBug = false

theorem inv_iff_cpuOk (s : State) : Inv s ↔ CpuOk s.cpu ∧ DevicesOk s :=
  (inv_iff s).trans and_assoc.symm

/-- The catch-up of R530 keeps the invariant: it changes no register. -/
theorem inv_tickDevices {s : State} (h : Inv s) : Inv (tickDevices s) := by
  obtain ⟨hc, hd⟩ := (inv_iff_cpuOk s).mp h
  exact (inv_iff_cpuOk _).mpr ⟨by rwa [tickDevices_cpu], devicesOk_tickDevices hd⟩

/-- R525: an interrupt dispatch keeps the invariant: it writes IF, the stack, SP, PC, `ime` and `halted`. -/
theorem inv_takeInterrupt {s : State} (h : Inv s) (k : Nat) : Inv (takeInterrupt k s) := by
  obtain ⟨hc, hd⟩ := (inv_iff_cpuOk s).mp h
  rw [takeInterrupt_eq]
  exact (inv_iff_cpuOk _).mpr
    ⟨hc, ((devicesOk_push16 ((hd.setIntFlag _).setCpu _) _).setCpu _).withCycles _⟩

/-- An instruction keeps the invariant. -/
theorem Inv.acts {s t : State} (h : Inv s) (ha : Acts s t) : Inv t := by
  obtain ⟨hf, ⟨hl, hb⟩, hd⟩ := (inv_iff s).mp h
  have hd' := devicesOk_acts hd ha
  obtain ⟨stores, c, n, rfl, -, hf', hl', hb'⟩ := ha
  exact (inv_iff _).mpr ⟨hf' hf, ⟨hl'.trans hl, hb'.trans hb⟩, hd'⟩

theorem inv_withCycles {s : State} (h : Inv s) (n : Nat) : Inv (s.withCycles n) := h.acts (acts_withCycles s n)

/-- R533, R340: the release of HALT and the promoted enable keep the invariant. -/
theorem inv_readyState {s : State} (h : Inv s) : Inv (readyState s) := by
  obtain ⟨hc, hd⟩ := (inv_iff_cpuOk s).mp h
  rw [readyState_cpu, readyState_fields]
  exact (inv_iff_cpuOk _).mpr ⟨hc, hd.setCpu _⟩

theorem inv_advancePc {s : State} (h : Inv s) : Inv (advancePc s) := by
  obtain ⟨⟨hf, hl, -⟩, hd⟩ := (inv_iff_cpuOk s).mp h
  exact (inv_iff_cpuOk _).mpr ⟨⟨hf, hl, rfl⟩, hd.setCpu _⟩

/-- Settles O34, along the three kinds of step: each leaves a state with the invariant to the catch-up. -/
theorem stepKeepsInv : Obligations.StepKeepsInv := by
  intro s t h ht
  obtain ⟨-, e⟩ | ⟨-, e⟩ | ⟨-, u, hu, e⟩ := step_cases s <;> rw [e] at ht <;> cases ht
  · exact inv_tickDevices (inv_takeInterrupt h _)
  · exact inv_tickDevices (inv_withCycles (inv_readyState h) 4)
  · exact inv_tickDevices ((inv_advancePc (inv_readyState h)).acts (.of_exec hu))

/-! ## The IO bytes and the APU's registers on the bus (R81, R82) -/

section

variable {a : Word} {k : Nat}

theorem State.io_setIo_self (s : State) (k : Nat) (v : Byte) : (s.setIo k v).io k = v := Cells.read_write_same ..

theorem region_of_apu (ha : a.toNat = 0xFF00 + k) (hk : 0x10 ≤ k ∧ k < 0x40) : region a = .apu k := by
  unfold region
  dsimp only
  rw [ha]
  iterate 8 rw [if_neg (by omega)]
  rw [if_pos (by omega), Nat.add_sub_cancel_left]

theorem region_of_io (ha : a.toNat = 0xFF00 + k) (hk : 0 < k ∧ k < 0x80) (h : ¬(0x10 ≤ k ∧ k < 0x40)) :
    region a = .io k := by
  unfold region
  dsimp only
  rw [ha]
  iterate 9 rw [if_neg (by omega)]
  rw [if_pos (by omega), Nat.add_sub_cancel_left]

theorem memRead_apu (ha : a.toNat = 0xFF00 + k) (hk : 0x10 ≤ k ∧ k < 0x40) (s : State) :
    memRead s a = apuRead s k := by
  rw [memRead, region_of_apu ha hk]; rfl

theorem memWrite_apu (ha : a.toNat = 0xFF00 + k) (hk : 0x10 ≤ k ∧ k < 0x40) (v : Byte) (s : State) :
    memWrite s a v = apuWrite k v s := by
  rw [memWrite, region_of_apu ha hk]; rfl

theorem memRead_io (ha : a.toNat = 0xFF00 + k) (hk : 0 < k ∧ k < 0x80) (h : ¬(0x10 ≤ k ∧ k < 0x40)) (s : State) :
    memRead s a = s.io k := by
  rw [memRead, region_of_io ha hk h]; rfl

theorem memWrite_io (ha : a.toNat = 0xFF00 + k) (hk : 0 < k ∧ k < 0x80) (h : ¬(0x10 ≤ k ∧ k < 0x40)) (v : Byte)
    (s : State) : memWrite s a v = ioWrite k v s := by
  rw [memWrite, region_of_io ha hk h]; rfl

/-- R470: a write to an APU register but NR52 stores its byte. -/
theorem apuWrite_of_ne (h : k ≠ Io.nr52) (v : Byte) (s : State) :
    apuWrite k v s = { s.setIo k v with
      apu := s.apu.writeEffect ((s.setIo k v).io Io.nr12) ((s.setIo k v).io Io.nr22) ((s.setIo k v).io Io.nr42)
        (ApuReg.ofOffset k) v } := if_neg h

theorem apuRead_apuWrite_self (h : k ≠ Io.nr52) (v : Byte) (s : State) : apuRead (apuWrite k v s) k = v := by
  rw [apuRead, if_neg h, apuWrite_of_ne h]
  exact State.io_setIo_self s k v

/-- R82: an IO byte that is neither DIV, STAT nor DMA is stored. -/
theorem ioWrite_plain (hdiv : k ≠ Io.div) (hstat : k ≠ Io.stat) (hdma : k ≠ Io.dma) (v : Byte) (s : State) :
    ioWrite k v s = s.setIo k v := by
  rw [ioWrite, if_neg hdiv, if_neg hstat, if_neg hdma]

theorem oamDma_mem_io (v : Byte) (s : State) : (oamDma v s).mem.io = s.mem.io.write Io.dma v :=
  congrArg (fun t : State => t.mem.io) (oamDma_eq v s)

theorem ioWrite_io_self (hdiv : k ≠ Io.div) (hstat : k ≠ Io.stat) (v : Byte) (s : State) :
    (ioWrite k v s).io k = v := by
  by_cases hdma : k = Io.dma
  · subst hdma
    show (oamDma v s).mem.io.read Io.dma = v
    rw [oamDma_mem_io, Cells.read_write_same]
  · rw [ioWrite_plain hdiv hstat hdma]
    exact State.io_setIo_self s k v

/-- R48: bits 6 to 3 of STAT are the CPU's. -/
theorem statWritten_getLsbD (old v : Byte) (k : Nat) :
    (statWritten old v).getLsbD k = if 3 ≤ k ∧ k ≤ 6 then v.getLsbD k else old.getLsbD k := by
  by_cases hk : k < 8
  · interval_cases k <;> simp [statWritten]
  · rw [if_neg (by omega), BitVec.getLsbD_of_ge _ _ (by omega), BitVec.getLsbD_of_ge _ _ (by omega)]

theorem memRead_div (s : State) : memRead s 0xFF04#16 = s.io Io.div :=
  memRead_io (by decide) (by decide) (by decide) s

/-- R41. -/
theorem memWrite_div (s : State) (v : Byte) : memWrite s 0xFF04#16 v = s.setIo Io.div 0 :=
  memWrite_io (k := Io.div) (by decide) (by decide) (by decide) v s

theorem memRead_stat (s : State) : memRead s 0xFF41#16 = s.io Io.stat :=
  memRead_io (by decide) (by decide) (by decide) s

/-- R48. -/
theorem memWrite_stat (s : State) (v : Byte) :
    memWrite s 0xFF41#16 v = s.setIo Io.stat (statWritten (s.io Io.stat) v) :=
  memWrite_io (k := Io.stat) (by decide) (by decide) (by decide) v s

end

/-- Settles O38, along the rows of R82: DIV, STAT, the APU's range, and the rest. -/
theorem ioWrites : Obligations.IoWrites := by
  intro s a v hlo hhi hnr52
  have ha : a.toNat = 0xFF00 + (a.toNat - 0xFF00) := by omega
  have hk : 0 < a.toNat - 0xFF00 ∧ a.toNat - 0xFF00 < 0x80 := by omega
  have offset_ne : ∀ j, a ≠ BitVec.ofNat 16 (0xFF00 + j) → a.toNat - 0xFF00 ≠ j := by
    rintro j hne rfl
    rw [← ha, BitVec.ofNat_toNat] at hne
    exact hne (BitVec.setWidth_eq a).symm
  refine ⟨?div, ?stat, fun hdiv hstat => ?readBack, fun hdiv hstat hdma hapu => ?frame⟩
  case div =>
    rintro rfl
    rw [memRead_div, memWrite_div]
    exact ⟨State.io_setIo_self .., rfl⟩
  case stat =>
    rintro rfl
    rw [memRead_stat, memRead_stat, memWrite_stat, State.io_setIo_self]
    exact ⟨statWritten_getLsbD (s.io Io.stat) v, rfl⟩
  case readBack =>
    by_cases hapu : 0x10 ≤ a.toNat - 0xFF00 ∧ a.toNat - 0xFF00 < 0x40
    · rw [memRead_apu ha hapu, memWrite_apu ha hapu]
      exact apuRead_apuWrite_self (offset_ne Io.nr52 hnr52) v s
    · rw [memRead_io ha hk hapu, memWrite_io ha hk hapu]
      exact ioWrite_io_self (offset_ne Io.div hdiv) (offset_ne Io.stat hstat) v s
  case frame =>
    rw [memWrite_io ha hk (by omega)]
    exact ioWrite_plain (offset_ne Io.div hdiv) (offset_ne Io.stat hstat) (offset_ne Io.dma hdma) v s

/-! ## The fields of the APU's registers (10_state.md section 5.1) -/

/-- The bits of a frequency put together from its high three bits and its low byte. -/
theorem getLsbD_frequency {high low i : Nat} (hl : low < 256) (hi : i < 11) :
    (BitVec.ofNat 11 (high * 256 + low)).getLsbD i = if i < 8 then low.testBit i else high.testBit (i - 8) := by
  rw [BitVec.getLsbD_ofNat, decide_eq_true hi, Bool.true_and, Nat.mul_comm, Nat.testBit_two_pow_mul_add (i := 8) _ hl]

/-- R473: the low byte of a frequency is replaced. -/
theorem freqLow_eq (f : BitVec 11) (v : Byte) : freqLow f v = BitVec.ofNat 11 (f.toNat / 256 * 256 + v.toNat) := by
  refine BitVec.eq_of_getLsbD_eq fun i hi => ?_
  rw [getLsbD_frequency v.isLt hi, Nat.testBit_div_two_pow (n := 8), BitVec.testBit_toNat, BitVec.testBit_toNat]
  interval_cases i <;> simp [freqLow]

/-- R473: the high three bits of a frequency are replaced. -/
theorem freqHigh_eq (f : BitVec 11) (v : Byte) :
    freqHigh f v = BitVec.ofNat 11 (f.toNat % 256 + v.toNat % 8 * 256) := by
  refine BitVec.eq_of_getLsbD_eq fun i hi => ?_
  rw [Nat.add_comm, getLsbD_frequency (Nat.mod_lt _ (by decide)) hi, Nat.testBit_mod_two_pow (j := 8),
    Nat.testBit_mod_two_pow (j := 3), BitVec.testBit_toNat, BitVec.testBit_toNat]
  interval_cases i <;> simp [freqHigh]

/-- A bit field of a byte as a number. -/
theorem extractLsb'_eq_ofNat (v : Byte) (i n x : Nat) (h : v.toNat / 2 ^ i % 2 ^ n = x % 2 ^ n) :
    v.extractLsb' i n = BitVec.ofNat n x := by
  apply BitVec.eq_of_toNat_eq
  rw [BitVec.extractLsb'_toNat, BitVec.toNat_ofNat, Nat.shiftRight_eq_div_pow, h]

/-- R466: the DAC is on unless the upper five bits are clear. -/
theorem dacOn_eq (v : Byte) : dacOn v = decide (8 ≤ v.toNat) := by
  revert v; decide

/-- R472. -/
theorem lengthLoad64_eq (v : Byte) : lengthLoad64 v = 64 - v.toNat % 64 := by
  unfold lengthLoad64
  rw [BitVec.toNat_and]
  exact congrArg (64 - ·) (Nat.and_two_pow_sub_one_eq_mod v.toNat 6)

/-- R475. -/
theorem Sweep.writeNr10_eq (v : Byte) (sw : Sweep) : sw.writeNr10 v = { sw with
    period := BitVec.ofNat 3 (v.toNat / 16 % 8), negate := v.getLsbD 3, shift := BitVec.ofNat 3 (v.toNat % 8) } := by
  unfold Sweep.writeNr10
  rw [extractLsb'_eq_ofNat v 4 3 (v.toNat / 16 % 8) (by omega), extractLsb'_eq_ofNat v 0 3 (v.toNat % 8) (by omega)]
  rfl

/-- R472. -/
theorem Square.writeDuty_eq (v : Byte) (ch : Square) : ch.writeDuty v = squareWritten 1 v ch := by
  unfold Square.writeDuty
  rw [lengthLoad64_eq, extractLsb'_eq_ofNat v 6 2 (v.toNat / 64) (by omega)]
  rfl

/-- R474. -/
theorem Square.dacCheck_eq (v : Byte) (ch : Square) : ch.dacCheck v = squareWritten 2 v ch := by
  unfold Square.dacCheck
  rw [dacOn_eq]
  rfl

/-- R473. -/
theorem Square.writeFreqLow_eq (v : Byte) (ch : Square) :
    { ch with frequency := freqLow ch.frequency v } = squareWritten 3 v ch := by
  rw [freqLow_eq]
  rfl

/-- R473: NRx4 without a trigger. -/
theorem Square.writeControl_eq {v : Byte} (h : v.getLsbD 7 = false) (master : Bool) (nrx2 : Byte) (ch : Square) :
    ch.writeControl master nrx2 v = squareWritten 4 v ch := by
  unfold Square.writeControl bitOf
  rw [h, freqHigh_eq]
  rfl

/-- R473: NR14 without a trigger leaves the sweep. -/
theorem Apu.writeNr14_eq {v : Byte} (h : v.getLsbD 7 = false) (nr12 : Byte) (u : Apu) :
    u.writeNr14 nr12 v = { u with ch1 := squareWritten 4 v u.ch1 } := by
  unfold Apu.writeNr14 bitOf
  rw [Square.writeControl_eq h, h]
  rfl

/-- R473: NR34 without a trigger. -/
theorem Wave.writeControl_eq {v : Byte} (h : v.getLsbD 7 = false) (master : Bool) (ch : Wave) :
    ch.writeControl master v =
      { ch with frequency := BitVec.ofNat 11 (ch.frequency.toNat % 256 + v.toNat % 8 * 256) } := by
  unfold Wave.writeControl bitOf
  rw [h, freqHigh_eq]
  rfl

/-- R476. -/
theorem Noise.writeNr43_eq (v : Byte) (ch : Noise) : ch.writeNr43 v = { ch with
    shiftAmount := BitVec.ofNat 4 (v.toNat / 16), widthMode := v.getLsbD 3, divisor := BitVec.ofNat 3 (v.toNat % 8) } := by
  unfold Noise.writeNr43
  rw [extractLsb'_eq_ofNat v 4 4 (v.toNat / 16) (by omega), extractLsb'_eq_ofNat v 0 3 (v.toNat % 8) (by omega)]
  rfl

/-- NR44 without a trigger is only stored. -/
theorem Noise.writeControl_eq {v : Byte} (h : v.getLsbD 7 = false) (master : Bool) (nr42 : Byte) (ch : Noise) :
    ch.writeControl master nr42 v = ch := by
  unfold Noise.writeControl bitOf
  rw [h]
  rfl

/-- R471: past the last row every offset is only stored. -/
theorem ApuReg.ofOffset_stored {k : Nat} (h : 0x24 ≤ k) : ApuReg.ofOffset k = .stored := by
  unfold ApuReg.ofOffset
  iterate 18 rw [if_neg (by omega)]

/-- R73: the byte a read of NR52 gives, as a number. -/
theorem Apu.readNr52_toNat (u : Apu) : u.readNr52.toNat = 128 * u.masterEnable.toNat + 112 + 8 * u.ch4.enabled.toNat +
    4 * u.ch3.enabled.toNat + 2 * u.ch2.enabled.toNat + u.ch1.enabled.toNat := by
  unfold Apu.readNr52
  generalize u.masterEnable = m, u.ch4.enabled = e4, u.ch3.enabled = e3, u.ch2.enabled = e2, u.ch1.enabled = e1
  revert m e4 e3 e2 e1
  decide

/-- Settles O54, register by register along the rows of R471. -/
theorem masterControl : Obligations.MasterControl := by
  refine ⟨fun s v => ⟨_, memWrite_apu (k := Io.nr52) (by decide) (by decide) v s, rfl, ?read⟩,
    fun s k v hlo hhi hk => ?_⟩
  case read =>
    rw [memRead_apu (k := Io.nr52) (by decide) (by decide)]
    exact Apu.readNr52_toNat _
  have ha : (BitVec.ofNat 16 (0xFF00 + k)).toNat = 0xFF00 + k := by
    rw [BitVec.toNat_ofNat]; omega
  refine ⟨_, (memWrite_apu ha ⟨hlo, hhi⟩ v s).trans (apuWrite_of_ne hk v s), ?sweep, ?square1, ?square2, ?nr30, ?nr31,
    ?nr32, ?nr33, ?nr34, ?nr41, ?nr42, ?nr43, ?stored⟩
  case sweep =>
    rintro rfl
    exact congrArg (fun sw => { s.apu with sweep := sw }) (Sweep.writeNr10_eq ..)
  case square1 =>
    have lift {ch : Square} (h : ch = squareWritten (k - 0x10) v s.apu.ch1) :=
      congrArg (fun ch => { s.apu with ch1 := ch }) h
    simp only [List.mem_cons, List.not_mem_nil, or_false]
    rintro ((rfl | rfl | rfl) | ⟨rfl, hv⟩)
    · exact lift (Square.writeDuty_eq ..)
    · exact lift (Square.dacCheck_eq ..)
    · exact lift (Square.writeFreqLow_eq ..)
    · exact Apu.writeNr14_eq hv ..
  case square2 =>
    have lift {ch : Square} (h : ch = squareWritten (k - 0x15) v s.apu.ch2) :=
      congrArg (fun ch => { s.apu with ch2 := ch }) h
    simp only [List.mem_cons, List.not_mem_nil, or_false]
    rintro ((rfl | rfl | rfl) | ⟨rfl, hv⟩)
    · exact lift (Square.writeDuty_eq ..)
    · exact lift (Square.dacCheck_eq ..)
    · exact lift (Square.writeFreqLow_eq ..)
    · exact lift (Square.writeControl_eq hv ..)
  case nr30 => rintro rfl; rfl
  case nr31 => rintro rfl; rfl
  case nr32 =>
    rintro rfl
    exact congrArg (fun x => { s.apu with ch3 := { s.apu.ch3 with volume := x } })
      (extractLsb'_eq_ofNat v 5 2 (v.toNat / 32 % 4) (by omega))
  case nr33 =>
    rintro rfl
    exact congrArg (fun f => { s.apu with ch3 := { s.apu.ch3 with frequency := f } }) (freqLow_eq ..)
  case nr34 =>
    rintro rfl hv
    exact congrArg (fun ch => { s.apu with ch3 := ch }) (Wave.writeControl_eq hv ..)
  case nr41 =>
    rintro rfl
    exact congrArg (fun n => { s.apu with ch4 := { s.apu.ch4 with lengthCounter := n } }) (lengthLoad64_eq v)
  case nr42 =>
    rintro rfl
    exact congrArg (fun b => { s.apu with ch4 := { s.apu.ch4 with enabled := s.apu.ch4.enabled && b } }) (dacOn_eq v)
  case nr43 =>
    rintro rfl
    exact congrArg (fun ch => { s.apu with ch4 := ch }) (Noise.writeNr43_eq ..)
  case stored =>
    simp only [List.mem_cons, List.not_mem_nil, or_false]
    rintro (⟨rfl, hv⟩ | (rfl | rfl | rfl | rfl) | hk')
    · exact congrArg (fun ch => { s.apu with ch4 := ch }) (Noise.writeControl_eq hv ..)
    · rfl
    · rfl
    · rfl
    · rfl
    · rw [ApuReg.ofOffset_stored (by omega)]; rfl

end Sys2Proof.Machine
end

section
/-! PROOFS. The statements about the bus and the cartridge (20_memory.md): what an instruction leaves of the devices, the
address map with its RAM, its echo and the OAM DMA, which reads a write can change, and the mappers with their windows. -/

namespace Sys2Proof.Machine

/-! ## The devices under an instruction (R93, R582) -/

theorem storeAll_frame (stores : List (Word × Byte)) (s : State) : BusFrame s (storeAll stores s) := by
  induction stores generalizing s with
  | nil => exact .rfl' s
  | cons p _ ih => exact (memWrite_frame s p.1 p.2).trans (ih _)

theorem storeAll_apuClocks (stores : List (Word × Byte)) (s : State) : ApuClocks s.apu (storeAll stores s).apu := by
  induction stores generalizing s with
  | nil => exact .rfl' s.apu
  | cons p _ ih => exact (memWrite_apuClocks s p.1 p.2).trans (ih _)

/-- Settles O28: an instruction is a list of bus writes, then registers and a cycle count, and no bus write moves a
device. -/
theorem devicesFrozen : Obligations.DevicesFrozen := by
  intro i s t h
  obtain ⟨stores, c, n, rfl, -⟩ := Acts.of_exec h
  have hf := storeAll_frame stores s
  have hc := storeAll_apuClocks stores s
  exact ⟨hf.ppu, hf.timer, hc.sampleCycles, hc.frameSequencerCycles, hc.frameSequencerStep, hc.buffer, hc.writePos,
    hc.ch1Position, hc.ch2Position, hf.rom, hf.romSize, hf.ramSize, hf.mapper, hf.title, congrFun hf.pressed⟩

/-! ## The address map (R81) -/

theorem region_unusable {a : Word} (h : region a = .unusable) : 0xFEA0 ≤ a.toNat ∧ a.toNat < 0xFF00 := by
  rcases region_rows a with r | r | r | r | r | r | r | r | r | r | r | r <;>
    simp only [h, reduceCtorEq, and_false, and_true] at r
  exact r

theorem region_joyp {a : Word} (h : region a = .joyp) : a.toNat = 0xFF00 := by
  rcases region_rows a with r | r | r | r | r | r | r | r | r | r | r | r <;>
    simp only [h, reduceCtorEq, and_false, and_true] at r
  exact r

theorem region_ie {a : Word} (h : region a = .ie) : a.toNat = 0xFFFF := by
  rcases region_rows a with r | r | r | r | r | r | r | r | r | r | r | r <;>
    simp only [h, reduceCtorEq, and_false, and_true] at r
  exact r

section

variable {a : Word}

theorem region_of_rom (h : a.toNat < 0x8000) : region a = .rom a.toNat := if_pos h

theorem region_of_vram (h : 0x8000 ≤ a.toNat ∧ a.toNat < 0xA000) : region a = .vram (a.toNat - 0x8000) := by
  unfold region
  rw [if_neg (by omega), if_pos h.2]

theorem region_of_cartRam (h : 0xA000 ≤ a.toNat ∧ a.toNat < 0xC000) : region a = .cartRam (a.toNat - 0xA000) := by
  unfold region
  rw [if_neg (by omega), if_neg (by omega), if_pos h.2]

theorem region_of_wram (h : 0xC000 ≤ a.toNat ∧ a.toNat < 0xE000) : region a = .wram (a.toNat - 0xC000) := by
  unfold region
  iterate 3 rw [if_neg (by omega)]
  rw [if_pos h.2]

theorem region_of_echo (h : 0xE000 ≤ a.toNat ∧ a.toNat < 0xFE00) : region a = .wram (a.toNat - 0xE000) := by
  unfold region
  iterate 4 rw [if_neg (by omega)]
  rw [if_pos h.2]

theorem region_of_unusable (h : 0xFEA0 ≤ a.toNat ∧ a.toNat < 0xFF00) : region a = .unusable := by
  unfold region
  iterate 6 rw [if_neg (by omega)]
  rw [if_pos h.2]

/-- R83: the echo of a WRAM byte selects the same byte. -/
theorem region_add_0x2000 (h : 0xC000 ≤ a.toNat ∧ a.toNat < 0xDE00) : region (a + 0x2000) = region a := by
  have ha : (a + 0x2000).toNat = a.toNat + 0x2000 := by bv_omega
  rw [region_of_wram ⟨h.1, by omega⟩, region_of_echo (by omega), ha]
  exact congrArg Region.wram (by omega)

end

/-! ## Which reads a write can change -/

/-- The cases of `affects`, in addresses. -/
theorem affects_cases {a b : Word} (h : affects a b = true) :
    b = a ∨
    (a.toNat < 0x8000 ∧ (b.toNat < 0x8000 ∨ 0xA000 ≤ b.toNat ∧ b.toNat < 0xC000)) ∨
    (0xC000 ≤ a.toNat ∧ a.toNat < 0xFE00 ∧ 0xC000 ≤ b.toNat ∧ b.toNat < 0xFE00 ∧
      (b.toNat = a.toNat + 0x2000 ∨ a.toNat = b.toNat + 0x2000)) ∨
    (a = 0xFF46#16 ∧ 0xFE00 ≤ b.toNat ∧ b.toNat < 0xFEA0) ∨
    (0xFF10 ≤ a.toNat ∧ a.toNat < 0xFF40 ∧ b = 0xFF26#16) ∨
    ((a = 0xFF40#16 ∨ a = 0xFF41#16) ∧ 0x8000 ≤ b.toNat ∧ b.toNat < 0xA000) := by
  simp only [← BitVec.toNat_inj, BitVec.toNat_ofNat]
  unfold affects at h
  split at h <;> rename_i ha hb <;> simp only [beq_iff_eq, Bool.or_eq_true, reduceCtorEq] at h
  · have := region_rom ha; have := region_rom hb; omega
  · have := region_rom ha; have := region_cartRam hb; omega
  · have := region_vram ha; have := region_vram hb; omega
  · have := region_cartRam ha; have := region_cartRam hb; omega
  · have := region_wram ha; have := region_wram hb; omega
  · have := region_oam ha; have := region_oam hb; omega
  · have := region_joyp ha; have := region_joyp hb; omega
  · have := region_apu ha; have := region_apu hb; simp only [Io.nr52] at h; omega
  · have := region_io ha; have := region_io hb; omega
  · have := region_io ha; have := region_oam hb; simp only [Io.dma] at h; omega
  · have := region_io ha; have := region_vram hb; simp only [Io.lcdc, Io.stat] at h; omega
  · have := region_hram ha; have := region_hram hb; omega
  · have := region_ie ha; have := region_ie hb; omega

/-- Settles O36: the cases of `affects` are the exceptions of the statement. -/
theorem writeFrame : Obligations.WriteFrame := by
  intro s a b v hne hbank hecho hdma hnr52 hvram
  apply memRead_memWrite_of_not_affects
  rw [← Bool.not_eq_true]
  intro h
  obtain h | h | h | h | h | h := affects_cases h <;> contradiction

/-! ## RAM, the echo and VRAM (R83 to R85) -/

/-- R81, R82: the regions that store a byte and return it whatever the state. -/
theorem memRead_memWrite_self {a : Word} (h : 0xC000 ≤ a.toNat ∧ a.toNat < 0xFEA0 ∨ 0xFF80 ≤ a.toNat) (s : State)
    (v : Byte) : memRead (memWrite s a v) a = v := by
  unfold memRead memWrite
  cases hr : region a with
  | wram _ | oam _ | hram _ => exact Cells.read_write_same ..
  | ie => rfl
  | rom _ => have := region_rom hr; omega
  | vram _ => have := region_vram hr; omega
  | cartRam _ => have := region_cartRam hr; omega
  | unusable => have := region_unusable hr; omega
  | joyp => have := region_joyp hr; omega
  | apu _ => have := region_apu hr; omega
  | io _ => have := region_io hr; omega

theorem vramReadBlocked_iff (s : State) : vramReadBlocked s = true ↔ s.lcdc 7 = true ∧ s.ppuMode = 3#2 := by
  rw [vramReadBlocked, Bool.and_eq_true, beq_iff_eq]; rfl

/-- R84: the read of a VRAM byte is the byte, but in mode 3 under the setting `returnFF`. -/
theorem vramRead_eq (p : VramMode3Read) (s : State) (i : Nat) :
    vramRead p s i = if vramReadBlocked s = true ∧ p = .returnFF then 0xFF#8 else s.mem.vram.read i := by
  unfold vramRead
  cases p <;> simp

section

variable {a : Word}

theorem memRead_vram (h : 0x8000 ≤ a.toNat ∧ a.toNat < 0xA000) (s : State) :
    memRead s a = vramRead Config.vramMode3Read s (a.toNat - 0x8000) := by
  rw [memRead, region_of_vram h]; rfl

/-- R82: a VRAM write is never blocked. -/
theorem memWrite_vram (h : 0x8000 ≤ a.toNat ∧ a.toNat < 0xA000) (s : State) (v : Byte) :
    memWrite s a v = s.setVram (a.toNat - 0x8000) v := by
  rw [memWrite, region_of_vram h]; rfl

/-- R84: a VRAM read that is not blocked gives the byte stored, the one just written too. -/
theorem vram_reads_byte (h : 0x8000 ≤ a.toNat ∧ a.toNat < 0xA000) {s : State}
    (hs : ¬(vramReadBlocked s = true ∧ Config.vramMode3Read = .returnFF)) (v : Byte) :
    memRead s a = s.mem.vram.read (a.toNat - 0x8000) ∧ memRead (memWrite s a v) a = v := by
  rw [memWrite_vram h, memRead_vram h, memRead_vram h, vramRead_eq, vramRead_eq, if_neg hs]
  exact ⟨rfl, (if_neg hs).trans (Cells.read_write_same ..)⟩

/-- R84: a blocked VRAM read gives 0xFF, after a write too. -/
theorem vram_reads_0xFF (h : 0x8000 ≤ a.toNat ∧ a.toNat < 0xA000) {s : State}
    (hs : vramReadBlocked s = true ∧ Config.vramMode3Read = .returnFF) (v : Byte) :
    memRead s a = 0xFF#8 ∧ memRead (memWrite s a v) a = 0xFF#8 := by
  rw [memWrite_vram h, memRead_vram h, memRead_vram h, vramRead_eq, vramRead_eq]
  exact ⟨if_pos hs, if_pos hs⟩

/-- R83: a WRAM byte is read at both of its addresses. -/
theorem memRead_echo (h : 0xC000 ≤ a.toNat ∧ a.toNat < 0xDE00) (s : State) : memRead s (a + 0x2000) = memRead s a :=
  congrArg (readRegion s) (region_add_0x2000 h)

/-- R83: a WRAM byte is written at both of its addresses. -/
theorem memWrite_echo (h : 0xC000 ≤ a.toNat ∧ a.toNat < 0xDE00) (s : State) (v : Byte) :
    memWrite s (a + 0x2000) v = memWrite s a v :=
  congrArg (writeRegion v s) (region_add_0x2000 h)

end

/-- Settles O37, clause by clause: the plain RAM, the echo, the WRAM without a second address, the
unusable area, and VRAM. -/
theorem ramAndEcho : Obligations.RamAndEcho := by
  intro s a v
  refine ⟨fun h => memRead_memWrite_self h s v, fun h => ?echo, fun h b hne => ?noEcho, fun h => ?unusable,
    fun h => ⟨memWrite_vram h s v, fun hseen => vram_reads_byte h ?seen v,
      fun hl hm => ⟨fun hp => vram_reads_byte h ?passThrough v,
        fun hp => vram_reads_0xFF h ⟨(vramReadBlocked_iff s).mpr ⟨hl, hm⟩, hp⟩ v⟩⟩⟩
  case echo =>
    rw [memRead_echo h, memRead_echo h, memWrite_echo h]
    have hself := memRead_memWrite_self (.inl ⟨h.1, by omega⟩) s v
    exact ⟨rfl, hself, hself⟩
  case noEcho =>
    exact writeFrame s a b v hne (by omega) (by omega) (by rintro ⟨rfl, -⟩; simp at h) (by omega)
      (by rintro ⟨rfl | rfl, -⟩ <;> simp at h)
  case unusable =>
    rw [memRead, memWrite, region_of_unusable h]
    exact ⟨rfl, rfl⟩
  case seen =>
    rintro ⟨hb, -⟩
    obtain ⟨hl, hm⟩ := (vramReadBlocked_iff s).mp hb
    exact hseen.elim (by simp [hl]) (absurd hm)
  case passThrough => simp [hp]

/-! ## OAM DMA (R88) -/

theorem dmaSource_eq (v : Byte) {i : Nat} (hi : i < 160) : dmaSource v i = BitVec.ofNat 16 (v.toNat * 256 + i) := by
  rw [← dmaSource_toNat v hi, BitVec.ofNat_toNat, BitVec.setWidth_eq]

theorem memWrite_dma (s : State) (v : Byte) : memWrite s 0xFF46#16 v = oamDma v s :=
  memWrite_io (k := Io.dma) (by decide) (by decide) (by decide) v s

/-- Settles O39: the loop of R88 after its 160 turns. -/
theorem oamDma_copies_page : Obligations.OamDma := by
  refine fun s v => ⟨oamDma v s, memWrite_dma s v, fun i hi => ?_, oamDma_eq v s⟩
  rw [oamDma, dmaCopy_oam v _ (Nat.le_refl 160), if_pos hi, dmaSource_eq v hi]

/-! ## The cartridge's windows (R101 to R103, R116, R117) -/

section

variable {c : Cartridge} {off : Nat}

/-- R116, R117: RAM that is disabled or out of range. -/
theorem Cartridge.ram_closed (h : c.ramEnabled = false ∨ c.ramSize ≤ c.ramIndex off) (v : Byte) :
    c.ramRead off = 0xFF#8 ∧ c.ramWrite off v = c := by
  have hc : ¬(c.ramEnabled = true ∧ c.ramIndex off < c.ramSize) := by
    rintro ⟨he, hlt⟩
    obtain h | h := h
    · exact absurd he (by simp [h])
    · omega
  exact ⟨if_neg hc, if_neg hc⟩

/-- R116, R117: RAM that is enabled and in range. -/
theorem Cartridge.ram_open (h : c.ramEnabled = true ∧ c.ramIndex off < c.ramSize) (v : Byte) :
    c.ramRead off = c.ram.read (c.ramIndex off) ∧ (c.ramWrite off v).ramRead off = v := by
  refine ⟨if_pos h, ?_⟩
  rw [Cartridge.ramWrite, if_pos h]
  exact (if_pos h).trans (Cells.read_write_same ..)

end

/-- Settles O43: each window is its row of the address map and the case of the cartridge's bounds. -/
theorem cartridgeWindows : Obligations.CartridgeWindows := by
  intro s a v
  refine ⟨fun h => ?low, fun hlo hhi => ?high, fun hlo hhi => ?ram⟩
  case low =>
    have hr : region a = .rom a.toNat := region_of_rom (by omega)
    have hi : s.cart.romIndex a.toNat = a.toNat := if_pos h
    rw [memRead, hr, readRegion, Cartridge.read, hi, Cartridge.romByte]
  case high =>
    have hi : s.cart.romIndex a.toNat = s.cart.romBank.toNat * 0x4000 + (a.toNat - 0x4000) := if_neg (by omega)
    rw [memRead, region_of_rom hhi, readRegion, Cartridge.read, hi, Cartridge.romByte]
  case ram =>
    rw [memRead, memRead, memWrite, region_of_cartRam ⟨hlo, hhi⟩]
    refine ⟨fun hclosed => ?_, fun he hlt => s.cart.ram_open ⟨he, hlt⟩ v⟩
    obtain ⟨hread, hwrite⟩ := Cartridge.ram_closed hclosed v
    exact ⟨hread, congrArg (fun c => { s with cart := c }) hwrite⟩

/-! ## The mappers (R104 to R115) -/

/-- A number put together from its upper and its lower bits. -/
theorem toNat_or_of_lt {w n k : Nat} {high low : BitVec w} (hh : high.toNat = k * 2 ^ n) (hl : low.toNat < 2 ^ n) :
    (high ||| low).toNat = k * 2 ^ n + low.toNat := by
  rw [BitVec.toNat_or, hh, Nat.mul_comm, Nat.two_pow_add_eq_or_of_lt hl]

/-- A bank number whose lower bits are replaced. -/
theorem toNat_or_zeroExtend {n k : Nat} {high : BitVec 9} (hn : n ≤ 9) (hh : high.toNat = k * 2 ^ n) (b : BitVec n) :
    (high ||| b.zeroExtend 9).toNat = k * 2 ^ n + b.toNat := by
  have hb : (b.zeroExtend 9).toNat = b.toNat := BitVec.toNat_setWidth_of_le hn
  rw [toNat_or_of_lt hh (hb ▸ b.isLt), hb]

theorem toNat_lowBits (v : Byte) (n : Nat) : (v.extractLsb' 0 n).toNat = v.toNat % 2 ^ n := by
  rw [BitVec.extractLsb'_toNat, Nat.shiftRight_zero]

theorem getLsbD_zero_eq (v : Byte) : v.getLsbD 0 = decide (v.toNat % 2 = 1) := Nat.testBit_zero _

/-- R106, R109: bank 0 is taken as bank 1. -/
theorem toNat_bankOrOne {n : Nat} (hn : 0 < n) (b : BitVec n) :
    (if b = 0 then 1 else b).toNat = if b.toNat = 0 then 1 else b.toNat := by
  by_cases h : b = 0
  · subst h
    simp [Nat.one_mod_two_pow hn]
  · have h0 : b.toNat ≠ 0 := fun e => h (BitVec.eq_of_toNat_eq (by simpa using e))
    rw [if_neg h, if_neg h0]

/-- R105. -/
theorem Cartridge.enableRam_eq (c : Cartridge) (v : Byte) :
    c.enableRam v = { c with ramEnabled := decide (v.toNat % 16 = 10) } := by
  have h : (v &&& 0x0F#8 == 0x0A#8) = decide (v.toNat % 16 = 10) := by revert v; decide
  rw [enableRam, h]

section

variable {c : Cartridge} {a : Nat} {v : Byte}

theorem Cartridge.write_none (h : c.mapper = .none) : c.write a v = c := by rw [write, h]
theorem Cartridge.write_mbc1 (h : c.mapper = .mbc1) : c.write a v = c.mbc1Write a v := by rw [write, h]
theorem Cartridge.write_mbc3 (h : c.mapper = .mbc3) : c.write a v = c.mbc3Write a v := by rw [write, h]
theorem Cartridge.write_mbc5 (h : c.mapper = .mbc5) : c.write a v = c.mbc5Write a v := by rw [write, h]

/-- R105: the RAM enable is the same register in every mapper. -/
theorem Cartridge.write_enableRam (hm : c.mapper ≠ .none) (ha : a < 0x2000) : c.write a v = c.enableRam v := by
  cases h : c.mapper with
  | none => exact absurd h hm
  | mbc1 => exact (write_mbc1 h).trans (if_pos ha)
  | mbc3 => exact (write_mbc3 h).trans (if_pos ha)
  | mbc5 => exact (write_mbc5 h).trans (if_pos ha)

end

/-- R106. -/
theorem Cartridge.mbc1BankLow_spec (c : Cartridge) (v : Byte) : ∃ b, c.mbc1BankLow v = { c with romBank := b } ∧
    b.toNat = c.romBank.toNat % 128 / 32 * 32 + if v.toNat % 32 = 0 then 1 else v.toNat % 32 := by
  refine ⟨_, rfl, ?_⟩
  have high (r : BitVec 9) : (r &&& 0x60#9).toNat = r.toNat % 128 / 32 * 2 ^ 5 := by revert r; decide
  rw [toNat_or_zeroExtend (by decide) (high _), toNat_bankOrOne (by decide), toNat_lowBits]
  rfl

/-- R107 in mode 0. -/
theorem Cartridge.mbc1Upper_mode0 {c : Cartridge} (hm : c.mbcMode = false) (v : Byte) :
    ∃ b, c.mbc1Upper v = { c with romBank := b } ∧ b.toNat = c.romBank.toNat % 32 + v.toNat % 4 * 32 := by
  refine ⟨_, by rw [mbc1Upper, hm]; rfl, ?_⟩
  have low : (c.romBank &&& 0x1F#9).toNat = c.romBank.toNat % 2 ^ 5 := Nat.and_two_pow_sub_one_eq_mod _ 5
  have high (b : BitVec 2) : (b.zeroExtend 9 <<< 5).toNat = b.toNat * 2 ^ 5 := by revert b; decide
  rw [BitVec.or_comm, toNat_or_of_lt (high _) (by omega), low, toNat_lowBits, Nat.add_comm]
  rfl

/-- R107 in mode 1. -/
theorem Cartridge.mbc1Upper_mode1 {c : Cartridge} (hm : c.mbcMode = true) (v : Byte) :
    ∃ b, c.mbc1Upper v = { c with ramBank := b } ∧ b.toNat = v.toNat % 4 := by
  refine ⟨_, by rw [mbc1Upper, hm]; rfl, ?_⟩
  exact (BitVec.toNat_setWidth_of_le (by decide)).trans (toNat_lowBits v 2)

/-- R109. -/
theorem Cartridge.mbc3Bank_spec (c : Cartridge) (v : Byte) : ∃ b, c.mbc3Bank v = { c with romBank := b } ∧
    b.toNat = if v.toNat % 128 = 0 then 1 else v.toNat % 128 := by
  refine ⟨_, rfl, ?_⟩
  rw [BitVec.zeroExtend, BitVec.toNat_setWidth_of_le (by decide), toNat_bankOrOne (by decide), toNat_lowBits]
  rfl

/-- R110, with the mask of 92 D13. -/
theorem Cartridge.mbc3RamBank_spec (c : Cartridge) (v : Byte) :
    ∃ b, mbc3RamBank Config.mbc3RamBankMask c v = { c with ramBank := b } ∧ b.toNat = v.toNat % 4 := by
  refine ⟨_, rfl, ?_⟩
  have mask : (v &&& 0x03#8).toNat = v.toNat % 2 ^ 2 := Nat.and_two_pow_sub_one_eq_mod _ 2
  rw [toNat_lowBits, Config.mbc3RamBankMask, mask]
  omega

/-- R112: the low byte of the bank. -/
theorem toNat_mbc5BankLow (r : BitVec 9) (v : Byte) :
    ((r &&& 0x100#9) ||| v.zeroExtend 9).toNat = r.toNat / 256 * 256 + v.toNat := by
  have high (r : BitVec 9) : (r &&& 0x100#9).toNat = r.toNat / 256 * 2 ^ 8 := by revert r; decide
  rw [toNat_or_zeroExtend (by decide) (high r)]
  rfl

/-- R113: the top bit of the bank. -/
theorem toNat_mbc5BankHigh (r : BitVec 9) (v : Byte) :
    ((r &&& 0x0FF#9) ||| (if v.getLsbD 0 then 0x100#9 else 0)).toNat = r.toNat % 256 + v.toNat % 2 * 256 := by
  have low : (r &&& 0x0FF#9).toNat = r.toNat % 2 ^ 8 := Nat.and_two_pow_sub_one_eq_mod _ 8
  have high (v : Byte) : (if v.getLsbD 0 then 0x100#9 else 0).toNat = v.toNat % 2 * 2 ^ 8 := by revert v; decide
  rw [BitVec.or_comm, toNat_or_of_lt (high v) (by omega), low, Nat.add_comm]
  rfl

/-- Settles O42: the bus write by its row of the address map, then each mapper by the range of the address. -/
theorem mapperWrites : Obligations.MapperWrites := by
  refine ⟨fun s a v h => by rw [memWrite, region_of_rom h]; rfl, fun c a v _ => ⟨Cartridge.write_none, ?enable, ?mbc1Low,
    ?mbc1Mode0, ?mbc1Mode1, ?mbc1Mode, ?mbc3Bank, ?mbc3RamBank, ?mbc5Low, ?mbc5High, ?mbc5RamBank, ?unused⟩⟩
  case enable => exact fun hm ha => (Cartridge.write_enableRam hm ha).trans (c.enableRam_eq v)
  case mbc1Low =>
    intro hm ha
    rw [Cartridge.write_mbc1 hm, Cartridge.mbc1Write, if_neg (by omega), if_pos ha.2]
    exact c.mbc1BankLow_spec v
  case mbc1Mode0 =>
    intro hm ha hmode
    rw [Cartridge.write_mbc1 hm, Cartridge.mbc1Write, if_neg (by omega), if_neg (by omega), if_pos ha.2]
    exact Cartridge.mbc1Upper_mode0 hmode v
  case mbc1Mode1 =>
    intro hm ha hmode
    rw [Cartridge.write_mbc1 hm, Cartridge.mbc1Write, if_neg (by omega), if_neg (by omega), if_pos ha.2]
    exact Cartridge.mbc1Upper_mode1 hmode v
  case mbc1Mode =>
    intro hm ha
    rw [Cartridge.write_mbc1 hm, Cartridge.mbc1Write, if_neg (by omega), if_neg (by omega), if_neg (by omega),
      getLsbD_zero_eq]
  case mbc3Bank =>
    intro hm ha
    rw [Cartridge.write_mbc3 hm, Cartridge.mbc3Write, if_neg (by omega), if_pos ha.2]
    exact c.mbc3Bank_spec v
  case mbc3RamBank =>
    intro hm ha
    rw [Cartridge.write_mbc3 hm, Cartridge.mbc3Write, if_neg (by omega), if_neg (by omega), if_pos ha.2]
    exact c.mbc3RamBank_spec v
  case mbc5Low =>
    intro hm ha
    rw [Cartridge.write_mbc5 hm, Cartridge.mbc5Write, if_neg (by omega), if_pos ha.2]
    exact ⟨_, rfl, toNat_mbc5BankLow c.romBank v⟩
  case mbc5High =>
    intro hm ha
    rw [Cartridge.write_mbc5 hm, Cartridge.mbc5Write, if_neg (by omega), if_neg (by omega), if_pos ha.2]
    exact ⟨_, rfl, toNat_mbc5BankHigh c.romBank v⟩
  case mbc5RamBank =>
    intro hm ha
    rw [Cartridge.write_mbc5 hm, Cartridge.mbc5Write, if_neg (by omega), if_neg (by omega), if_neg (by omega), if_pos ha.2]
    exact ⟨_, rfl, toNat_lowBits v 4⟩
  case unused =>
    rintro (hm | hm) ha
    · rw [Cartridge.write_mbc3 hm, Cartridge.mbc3Write, if_neg (by omega), if_neg (by omega), if_neg (by omega)]
    · rw [Cartridge.write_mbc5 hm, Cartridge.mbc5Write, if_neg (by omega), if_neg (by omega), if_neg (by omega),
        if_neg (by omega)]

end Sys2Proof.Machine
end

section
/-! PROOFS. The statements about the encoding (30_encoding.md): decoding and encoding invert each other, the illegal
opcodes, and the printed cycle counts against the counts of the meanings. -/

namespace Sys2Proof.Machine

/-! ## Decoding what was encoded (R140 to R147) -/

/-- `decodeBytes` with its two operand bytes already joined to the word of R145. -/
def decodeOperands (op n : Byte) (nn : Word) : Instr :=
  match fieldX op with
  | 0 => decodeX0 op n nn
  | 1 => Instr.ld8 (Operand8.ofCode (fieldY op)) (Operand8.ofCode (fieldZ op))
  | 2 => Instr.alu8 (AluOp.ofCode (fieldY op)) (Operand8.ofCode (fieldZ op))
  | _ => decodeX3 op n nn

theorem decodeBytes_eq (op b1 b2 : Byte) : decodeBytes op b1 b2 = decodeOperands op b1 (joinBytes b2 b1) := rfl

section

variable {i : Instr} {op n : Byte} {nn : Word} {rest : List Byte}

theorem decode_encode_of_byte (he : encode i = [op]) (hl : opcodeLength op = 1)
    (hd : ∀ n nn, decodeOperands op n nn = i) : decode (encode i ++ rest) = .ok (i, rest) := by
  simp [he, decode, hl, decodeBytes_eq, hd]

theorem decode_encode_of_byteOperand (he : encode i = [op, n]) (hl : opcodeLength op = 2)
    (hd : ∀ nn, decodeOperands op n nn = i) : decode (encode i ++ rest) = .ok (i, rest) := by
  simp [he, decode, hl, decodeBytes_eq, hd]

theorem decode_encode_of_wordOperand (he : encode i = [op, loByte nn, hiByte nn]) (hl : opcodeLength op = 3)
    (hd : decodeOperands op (loByte nn) nn = i) : decode (encode i ++ rest) = .ok (i, rest) := by
  simp [he, decode, hl, decodeBytes_eq, hd]

end

/-- Settles O1, by row family: the bytes of the family's row select the row again, and the operand comes back from the
bytes after the opcode. -/
theorem decodeEncode : Obligations.DecodeEncode := by
  intro i rest
  induction i using Instr.byFamily with
  -- one byte
  | ld8 dst src _ => cases dst <;> cases src <;> exact decode_encode_of_byte rfl rfl (fun _ _ => rfl)
  | alu8 op r => cases op <;> cases r <;> exact decode_encode_of_byte rfl rfl (fun _ _ => rfl)
  | inc8 r | dec8 r | push r | pop r | addHl r | inc16 r | dec16 r | retCond r | rst r | illegal r =>
    cases r <;> exact decode_encode_of_byte rfl rfl (fun _ _ => rfl)
  | nop | ldIndBcA | rlca | ldAIndBc | rrca | ldIndDeA | rla | ldAIndDe | rra | ldIndHliA | daa | ldAIndHli | cpl
  | ldIndHldA | scf | ldAIndHld | ccf | ret | reti | ldIndCA | jpHl | ldAIndC | di | ldSpHl | ei | halt =>
    exact decode_encode_of_byte rfl rfl (fun _ _ => rfl)
  -- the CB page: the second byte is part of the opcode
  | rot op r | bit op r | res op r | set op r =>
    cases op <;> cases r <;> exact decode_encode_of_byteOperand rfl rfl (fun _ => rfl)
  -- a byte operand
  | ldImm8 _ r | aluImm _ r | jrCond _ r =>
    cases r <;> exact decode_encode_of_byteOperand rfl rfl (fun _ => rfl)
  | stop _ | jrE8 _ | ldhIndNA _ | addSpE8 _ | ldhAIndN _ | ldHlSpE8 _ =>
    exact decode_encode_of_byteOperand rfl rfl (fun _ => rfl)
  -- a word operand
  | ldImm16 _ r | jpCond _ r | callCond _ r =>
    cases r <;> exact decode_encode_of_wordOperand rfl rfl rfl
  | ldIndNnSp _ | jpNn _ | callNn _ | ldIndNnA _ | ldAIndNn _ =>
    exact decode_encode_of_wordOperand rfl rfl rfl

/-- Settles O3: each word is the encoding of its instruction, which decoding gives back. -/
theorem decodeWords : Obligations.DecodeWords :=
  ⟨decodeEncode .nop [], decodeEncode .ldDE [], decodeEncode .halt [], decodeEncode (.ldAN 0x45) [],
    decodeEncode .sbcAIndHl [], decodeEncode (.xorN 0x0F) [], decodeEncode (.ldSpNn 0xDFFF) [], decodeEncode .pushAf [],
    decodeEncode .addHlHl [], decodeEncode (.jrNcE8 0xFE) [], decodeEncode (.callCNn 0x0200) [], decodeEncode .rst28 [],
    decodeEncode .swapA [], decodeEncode .set3IndHl [], decodeEncode .illegalD3 []⟩

/-! ## Encoding what was decoded (R140, R149, R150) -/

theorem exists_opByte {op : Byte} {x : Nat} (hx : fieldX op = x) : ∃ y < 8, ∃ z < 8, op = opByte x y z := by
  refine ⟨fieldY op, Nat.mod_lt _ (by decide), fieldZ op, Nat.mod_lt _ (by decide), BitVec.eq_of_toNat_eq ?_⟩
  subst hx
  simp only [opByte, fieldX, fieldY, fieldZ, BitVec.toNat_ofNat]
  omega

theorem encode_decodeCb : ∀ op2 : Byte, encode (decodeCb op2) = [0xCB, op2] := by decide

section

variable {op : Byte} (nn : Word)

theorem encode_decodeX0 (hx : fieldX op = 0) :
    encode (decodeX0 op (loByte nn) nn) = [op, loByte nn, hiByte nn].take (opcodeLength op) := by
  obtain ⟨y, hy, z, hz, rfl⟩ := exists_opByte hx
  interval_cases z <;> interval_cases y <;> rfl

theorem encode_ld8_ofCode (hx : fieldX op = 1) :
    encode (Instr.ld8 (Operand8.ofCode (fieldY op)) (Operand8.ofCode (fieldZ op))) =
      [op, loByte nn, hiByte nn].take (opcodeLength op) := by
  obtain ⟨y, hy, z, hz, rfl⟩ := exists_opByte hx
  interval_cases z <;> interval_cases y <;> rfl

theorem encode_alu8_ofCode (hx : fieldX op = 2) :
    encode (Instr.alu8 (AluOp.ofCode (fieldY op)) (Operand8.ofCode (fieldZ op))) =
      [op, loByte nn, hiByte nn].take (opcodeLength op) := by
  obtain ⟨y, hy, z, hz, rfl⟩ := exists_opByte hx
  interval_cases z <;> interval_cases y <;> rfl

/-- Every row but 0xCB has its own number; 0xCB leads to the rows of the CB page (R147, R150). -/
theorem encode_decodeX3 (hx : fieldX op = 3) :
    encode (decodeX3 op (loByte nn) nn) = [op, loByte nn, hiByte nn].take (opcodeLength op) := by
  by_cases hcb : op = 0xCB
  · subst hcb
    exact encode_decodeCb (loByte nn)
  · obtain ⟨y, hy, z, hz, rfl⟩ := exists_opByte hx
    interval_cases z <;> interval_cases y <;> first | rfl | exact absurd rfl hcb

theorem encode_decodeOperands (op : Byte) :
    encode (decodeOperands op (loByte nn) nn) = [op, loByte nn, hiByte nn].take (opcodeLength op) := by
  have hx : fieldX op = 0 ∨ fieldX op = 1 ∨ fieldX op = 2 ∨ fieldX op = 3 := by
    have : fieldX op < 4 := Nat.div_lt_of_lt_mul op.isLt
    omega
  obtain h | h | h | h := hx <;> simp only [decodeOperands, h]
  exacts [encode_decodeX0 nn h, encode_ld8_ofCode nn h, encode_alu8_ofCode nn h, encode_decodeX3 nn h]

end

theorem encode_decodeBytes (op b1 b2 : Byte) :
    encode (decodeBytes op b1 b2) = [op, b1, b2].take (opcodeLength op) := by
  simpa [decodeBytes_eq] using encode_decodeOperands (joinBytes b2 b1) op

theorem opcodeLength_bounds : ∀ op : Byte, 1 ≤ opcodeLength op ∧ opcodeLength op ≤ 3 := by decide

theorem length_encode_decodeBytes (op b1 b2 : Byte) : (encode (decodeBytes op b1 b2)).length = opcodeLength op := by
  rw [encode_decodeBytes, List.length_take]
  exact Nat.min_eq_left (opcodeLength_bounds op).2

/-- The first byte of the encoding is the opcode that was decoded. -/
theorem head?_encode_decodeBytes (op b1 b2 : Byte) : (encode (decodeBytes op b1 b2)).head? = some op := by
  obtain ⟨n, hn⟩ := Nat.exists_eq_add_of_le' (opcodeLength_bounds op).1
  rw [encode_decodeBytes, hn, List.take_succ_cons, List.head?_cons]

theorem wellFormed_decodeBytes (op b1 b2 : Byte) : (decodeBytes op b1 b2).wellFormed = true := by
  obtain ⟨n, hn⟩ := Nat.exists_eq_add_of_le' (opcodeLength_bounds op).1
  have hn2 : n ≤ 2 := by have := (opcodeLength_bounds op).2; omega
  unfold Instr.wellFormed
  rw [encode_decodeBytes, hn, List.take_succ_cons]
  simp [wellFormedBytes, hasOpcode, hasOpcodeLength, hn, hn2]

theorem decode_cons_of_length_le {op : Byte} {tail : List Byte} (h : opcodeLength op ≤ tail.length + 1) :
    decode (op :: tail) = .ok (decodeBytes op (tail.getD 0 0) (tail.getD 1 0), tail.drop (opcodeLength op - 1)) :=
  if_neg (Nat.not_lt.2 h)

/-- What `decode` answers an instruction for. -/
theorem decode_eq_ok {bs rest : List Byte} {i : Instr} (h : decode bs = .ok (i, rest)) :
    ∃ op tail, bs = op :: tail ∧ opcodeLength op ≤ tail.length + 1 ∧
      i = decodeBytes op (tail.getD 0 0) (tail.getD 1 0) ∧ rest = tail.drop (opcodeLength op - 1) := by
  cases bs with
  | nil => cases h
  | cons op tail =>
    by_cases hl : tail.length + 1 < opcodeLength op
    · cases (if_pos hl).symm.trans h
    · cases (if_neg hl).symm.trans h
      exact ⟨op, tail, rfl, Nat.not_lt.1 hl, rfl, rfl⟩

/-- The first `n` bytes, read as an opcode and two bytes that may be missing, are those of the list. -/
theorem take_getD_append_drop (op : Byte) (tail : List Byte) {n : Nat} (h1 : 1 ≤ n) (h3 : n ≤ 3)
    (h : n ≤ tail.length + 1) :
    [op, tail.getD 0 0, tail.getD 1 0].take n ++ tail.drop (n - 1) = op :: tail := by
  match tail, n with
  | _, 1 => simp
  | [], 2 | [], 3 | [_], 3 => simp at h
  | _ :: _, 2 | _ :: _ :: _, 3 => simp

/-- Settles O2: a byte sequence that decodes is its opcode and what follows, and the encoding of what was decoded is as
much of them as the opcode's length says. -/
theorem encodeDecode : Obligations.EncodeDecode := by
  refine ⟨fun bs rest i h => ?_, fun op b1 b2 rest => ?_⟩
  · obtain ⟨op, tail, rfl, hl, rfl, rfl⟩ := decode_eq_ok h
    obtain ⟨h1, h3⟩ := opcodeLength_bounds op
    rw [encode_decodeBytes, take_getD_append_drop op tail h1 h3 hl]
  · obtain ⟨h1, h3⟩ := opcodeLength_bounds op
    obtain ⟨n, hn⟩ := Nat.exists_eq_add_of_le' h1
    refine ⟨decodeBytes op b1 b2, ?_, length_encode_decodeBytes op b1 b2, h1, h3, wellFormed_decodeBytes op b1 b2⟩
    rw [decode_cons_of_length_le (by simp; omega), hn]
    rfl

/-! ## The illegal opcodes (R148, R350) -/

theorem decodeBytes_illegal (k : IllegalOp) (b1 b2 : Byte) : decodeBytes k.byte b1 b2 = Instr.illegal k := by
  cases k <;> rfl

theorem encode_illegal (k : IllegalOp) : encode (Instr.illegal k) = [k.byte] := by cases k <;> rfl

/-- A byte decodes to an illegal opcode when it is the byte of one. -/
theorem decodeBytes_eq_illegal_iff (op b1 b2 : Byte) (k : IllegalOp) :
    decodeBytes op b1 b2 = Instr.illegal k ↔ op = k.byte := by
  refine ⟨fun h => ?_, fun h => h ▸ decodeBytes_illegal k b1 b2⟩
  have hh := head?_encode_decodeBytes op b1 b2
  rw [h, encode_illegal] at hh
  exact (Option.some.inj hh).symm

/-- Settles O4: the encoding of what was decoded begins with the byte that was decoded, so no other byte gives an illegal
opcode. -/
theorem illegalOpcodes : Obligations.IllegalOpcodes := by
  refine ⟨fun op b1 b2 => ?_, fun k => ⟨by cases k <;> rfl, encode_illegal k⟩,
    fun k s => ⟨_, exec_illegal k s, regOnly_withCycles [] s 4, rfl⟩⟩
  simp only [decodeBytes_eq_illegal_iff]
  constructor
  · rintro ⟨k, rfl⟩
    cases k <;> decide
  · intro h
    simp only [List.mem_cons, List.not_mem_nil, or_false] at h
    obtain h | h | h | h | h | h | h | h | h | h | h := h
    exacts [⟨.opD3, h⟩, ⟨.opDB, h⟩, ⟨.opDD, h⟩, ⟨.opE3, h⟩, ⟨.opE4, h⟩, ⟨.opEB, h⟩, ⟨.opEC, h⟩, ⟨.opED, h⟩, ⟨.opF4, h⟩,
      ⟨.opFC, h⟩, ⟨.opFD, h⟩]

/-! ## The printed cycle counts (R146, R147, R588) -/

/-- The cell of the base page (R146). -/
def baseCounts (op : Byte) : Nat × Nat := (cycleRows.getD (op.toNat / 16) []).getD (op.toNat % 16) (0, 0)

/-- R588: what a printed count is. -/
def CountInRange (n : Nat) : Prop := n % 4 = 0 ∧ 4 ≤ n ∧ n ≤ 24

theorem baseCounts_inRange (op : Byte) (h : op ≠ 0xCB) :
    CountInRange (baseCounts op).1 ∧ CountInRange (baseCounts op).2 := by
  unfold CountInRange
  revert op
  decide

theorem cbCycles_inRange (op2 : Byte) : CountInRange (cbCycles op2) := by
  unfold cbCycles CountInRange
  split_ifs <;> decide

theorem cycleCounts_inRange (i : Instr) : CountInRange i.cycleCounts.1 ∧ CountInRange i.cycleCounts.2 := by
  unfold Instr.cycleCounts cyclesOfBytes
  dsimp only
  split_ifs with h
  · exact ⟨cbCycles_inRange _, cbCycles_inRange _⟩
  · exact baseCounts_inRange _ h

section

variable {i : Instr} {s u v : State}

/-- The counts of a row of the base page depend on the opcode alone. -/
theorem cycleCounts_of_encode {op : Byte} {tail : List Byte} {c : Nat × Nat} (he : encode i = op :: tail)
    (hc : op ≠ 0xCB ∧ baseCounts op = c) : i.cycleCounts = c := by
  unfold Instr.cycleCounts cyclesOfBytes
  rw [he]
  exact (if_neg hc.1).trans hc.2

theorem exec_cycles_of_count {n : Nat} (he : exec i s = .next (u.withCycles n)) (hc : i.cycleCounts = (n, n)) :
    ∃ t, exec i s = .next t ∧ (t.cycles = i.cycleCounts.1 ∨ t.cycles = i.cycleCounts.2) :=
  ⟨_, he, .inl (by rw [hc]; rfl)⟩

/-- A conditional row costs its first count when taken, its second when not. -/
theorem exec_cycles_of_branch {b : Bool} {m n : Nat}
    (he : exec i s = .next (if b then u.withCycles m else v.withCycles n)) (hc : i.cycleCounts = (m, n)) :
    ∃ t, exec i s = .next t ∧ (t.cycles = i.cycleCounts.1 ∨ t.cycles = i.cycleCounts.2) := by
  refine ⟨_, he, ?_⟩
  rw [hc]
  cases b
  · exact .inr rfl
  · exact .inl rfl

/-- Every instruction, in every state, by its row family: the count of its meaning is one its row prints. -/
theorem exec_cycles (i : Instr) (s : State) :
    ∃ t, exec i s = .next t ∧ (t.cycles = i.cycleCounts.1 ∨ t.cycles = i.cycleCounts.2) := by
  induction i using Instr.byFamily with
  -- the base page without an immediate
  | ld8 dst src h =>
    refine exec_cycles_of_count (exec_ld8 dst src s h) ?_
    cases dst <;> cases src <;> first | rfl | exact absurd ⟨rfl, rfl⟩ h
  | alu8 op r => exact exec_cycles_of_count (exec_alu8 op r s) (by cases op <;> cases r <;> rfl)
  | inc8 r => exact exec_cycles_of_count (exec_inc8 r s) (by cases r <;> rfl)
  | dec8 r => exact exec_cycles_of_count (exec_dec8 r s) (by cases r <;> rfl)
  | push p => exact exec_cycles_of_count (exec_push p s) (by cases p <;> rfl)
  | pop p => exact exec_cycles_of_count (exec_pop p s) (by cases p <;> rfl)
  | addHl p => exact exec_cycles_of_count (exec_addHl p s) (by cases p <;> rfl)
  | inc16 p => exact exec_cycles_of_count (exec_inc16 p s) (by cases p <;> rfl)
  | dec16 p => exact exec_cycles_of_count (exec_dec16 p s) (by cases p <;> rfl)
  | rst y => exact exec_cycles_of_count (exec_rst y s) (by cases y <;> rfl)
  | illegal k => exact exec_cycles_of_count (exec_illegal k s) (by cases k <;> rfl)
  | nop | ldIndBcA | rlca | ldAIndBc | rrca | ldIndDeA | rla | ldAIndDe | rra | ldIndHliA | daa | ldAIndHli | cpl
  | ldIndHldA | scf | ldAIndHld | ccf | ret | reti | ldIndCA | jpHl | ldAIndC | di | ldSpHl | ei | halt =>
    exact exec_cycles_of_count rfl rfl
  -- the CB page
  | rot op r => exact exec_cycles_of_count (exec_rot op r s) (by cases op <;> cases r <;> rfl)
  | bit b r => exact exec_cycles_of_count (exec_bit b r s) (by cases b <;> cases r <;> rfl)
  | res b r => exact exec_cycles_of_count (exec_res b r s) (by cases b <;> cases r <;> rfl)
  | set b r => exact exec_cycles_of_count (exec_set b r s) (by cases b <;> cases r <;> rfl)
  -- an immediate after the opcode
  | ldImm8 n r =>
    exact exec_cycles_of_count (exec_ldImm8 n r s) (by cases r <;> exact cycleCounts_of_encode rfl (by decide))
  | aluImm n op =>
    exact exec_cycles_of_count (exec_aluImm n op s) (by cases op <;> exact cycleCounts_of_encode rfl (by decide))
  | ldImm16 nn p =>
    exact exec_cycles_of_count (exec_ldImm16 nn p s) (by cases p <;> exact cycleCounts_of_encode rfl (by decide))
  | stop _ | jrE8 _ | ldhIndNA _ | addSpE8 _ | ldhAIndN _ | ldHlSpE8 _ | ldIndNnSp _ | jpNn _ | callNn _ | ldIndNnA _
  | ldAIndNn _ => exact exec_cycles_of_count rfl (cycleCounts_of_encode rfl (by decide))
  -- two counts: taken, not taken
  | jrCond e cc =>
    exact exec_cycles_of_branch (exec_jrCond e cc s) (by cases cc <;> exact cycleCounts_of_encode rfl (by decide))
  | jpCond nn cc =>
    exact exec_cycles_of_branch (exec_jpCond nn cc s) (by cases cc <;> exact cycleCounts_of_encode rfl (by decide))
  | callCond nn cc =>
    exact exec_cycles_of_branch (exec_callCond nn cc s) (by cases cc <;> exact cycleCounts_of_encode rfl (by decide))
  | retCond cc => exact exec_cycles_of_branch (exec_retCond cc s) (by cases cc <;> rfl)

end

/-- Settles O25: the meaning's count is one of the row's, and every printed count is in range. -/
theorem cycleCounts : Obligations.CycleCounts := by
  intro i s
  obtain ⟨t, he, hc⟩ := exec_cycles i s
  obtain ⟨taken, notTaken⟩ := cycleCounts_inRange i
  refine ⟨t, he, hc, ?_⟩
  obtain h | h := hc <;> rw [h]
  exacts [taken, notTaken]

end Sys2Proof.Machine
end

section
/-! PROOFS. The statements about the 8-bit loads (41_load8.md). A load writes one operand; each frame is composed of the
frames of the register writes and of the bus write that the load is made of. -/

namespace Sys2Proof.Machine

/-! ## Frames, composed -/

theorem Keeps.trans {xs ys : List Reg} {s t u : State} (h : Keeps xs s t) (k : Keeps ys t u) : Keeps (xs ++ ys) s u := by
  intro r hr
  rw [List.mem_append, not_or] at hr
  exact (k r hr.2).trans (h r hr.1)

theorem SameControl.trans {s t u : State} (h : SameControl s t) (k : SameControl t u) : SameControl s u := by
  obtain ⟨hHalted, hIme, hScheduled, hLocked, hBug⟩ := h
  obtain ⟨kHalted, kIme, kScheduled, kLocked, kBug⟩ := k
  exact ⟨kHalted.trans hHalted, kIme.trans hIme, kScheduled.trans hScheduled, kLocked.trans hLocked, kBug.trans hBug⟩

theorem SameDevices.trans {s t u : State} (h : SameDevices s t) (k : SameDevices t u) : SameDevices s u := by
  obtain ⟨hMem, hCart, hPpu, hApu, hTimer, hJoypad⟩ := h
  obtain ⟨kMem, kCart, kPpu, kApu, kTimer, kJoypad⟩ := k
  exact ⟨kMem.trans hMem, kCart.trans hCart, kPpu.trans hPpu, kApu.trans hApu, kTimer.trans hTimer, kJoypad.trans hJoypad⟩

theorem RegOnly.trans {xs ys : List Reg} {s t u : State} (h : RegOnly xs s t) (k : RegOnly ys t u) :
    RegOnly (xs ++ ys) s u := by
  obtain ⟨hKeeps, hControl, hDevices, hReads⟩ := h
  obtain ⟨kKeeps, kControl, kDevices, kReads⟩ := k
  exact ⟨hKeeps.trans kKeeps, hControl.trans kControl, hDevices.trans kDevices, fun a => (kReads a).trans (hReads a)⟩

/-! ## Writing one operand (R142, R143) -/

theorem operand8_setOperand8 {r : Operand8} (hr : r ≠ .indHl) (v : Byte) (s : State) (n : Nat) :
    operand8 r ((setOperand8 r v s).withCycles n) = v := by
  cases r with
  | indHl => exact absurd rfl hr
  | _ => rfl

/-- A register write changes that register only. -/
theorem regOnly_setOperand8 {r : Operand8} (hr : r ≠ .indHl) (v : Byte) (s : State) (n : Nat) :
    RegOnly (operandRegs r) s ((setOperand8 r v s).withCycles n) := by
  cases r with
  | indHl => exact absurd rfl hr
  | _ =>
    refine regOnly_setCpu n (fun q hq => ?_) ⟨rfl, rfl, rfl, rfl, rfl⟩
    cases q <;> simp [operandRegs] at hq <;> rfl

/-- A pair write changes the registers of the pair only. -/
theorem regOnly_setPair (p : Pair) (v : Word) (s : State) (n : Nat) :
    RegOnly (pairRegs p) s ((setPair p v s).withCycles n) := by
  cases p with
  | _ =>
    refine regOnly_setCpu n (fun q hq => ?_) ⟨rfl, rfl, rfl, rfl, rfl⟩
    cases q <;> simp [pairRegs] at hq <;> rfl

theorem pairValue_setPair (p : Pair) (v : Word) (s : State) (n : Nat) :
    pairValue p ((setPair p v s).withCycles n) = v := by
  cases p with
  | sp => rfl
  | _ => exact joinBytes_hi_lo v

/-! ## Encodings (R146) -/

/-- The code of (HL) on both sides is the opcode of HALT, which `Instr.ld8` gives there. -/
theorem encode_ld8 (dst src : Operand8) :
    encode (Instr.ld8 dst src) = [opByte 1 (operandCode dst) (operandCode src)] := by
  cases dst <;> cases src <;> rfl

theorem encode_ldImm8 (n : Byte) (dst : Operand8) :
    encode (Instr.ldImm8 n dst) = [opByte 0 (operandCode dst) 6, n] := by
  cases dst <;> rfl

/-! ## What a load does -/

section

variable {i : Instr} {s : State} {bytes : List Byte} {a : Word} {v : Byte} {n : Nat}

/-- R200 to R202: an instruction that writes `v` to a register has exactly that effect. -/
theorem exec_effect_of_setOperand8 {dst : Operand8} (hd : dst ≠ .indHl)
    (he : exec i s = .next ((setOperand8 dst v s).withCycles n)) :
    ∃ t, exec i s = .next t ∧ operand8 dst t = v ∧ RegOnly (operandRegs dst) s t ∧ t.cycles = n :=
  ⟨_, he, operand8_setOperand8 hd v s n, regOnly_setOperand8 hd v s n, rfl⟩

theorem loadsA_of_exec (hb : encode i = bytes) (he : exec i s = .next (loadA a n s)) : LoadsA i bytes a n s :=
  ⟨hb, exec_effect_of_setOperand8 (dst := .a) nofun he⟩

/-- R203 to R214: an instruction that makes one bus write has exactly that effect. -/
theorem storesByte_of_exec (hb : encode i = bytes) (he : exec i s = .next ((memWrite s a v).withCycles n)) :
    StoresByte i bytes a v n s :=
  ⟨hb, _, he, stores_memWrite s a v n, keeps_memWrite [] s a v n, sameControl_memWrite s a v n, rfl⟩

end

section

variable {dst src : Operand8} (s : State)

theorem exec_ld8_regs (hd : dst ≠ .indHl) (hs : src ≠ .indHl) :
    exec (Instr.ld8 dst src) s = .next ((setOperand8 dst (operand8 src s) s).withCycles 4) := by
  rw [exec_ld8 dst src s (fun h => hd h.1), load8, if_neg (not_or.mpr ⟨hd, hs⟩)]

theorem exec_ld8_fromHl (hd : dst ≠ .indHl) :
    exec (Instr.ld8 dst .indHl) s = .next ((setOperand8 dst (memRead s s.hl) s).withCycles 8) := by
  rw [exec_ld8 dst .indHl s (fun h => hd h.1), load8, if_pos (.inr rfl)]
  rfl

theorem exec_ld8_toHl (hs : src ≠ .indHl) :
    exec (Instr.ld8 .indHl src) s = .next ((memWrite s s.hl (operand8 src s)).withCycles 8) := by
  rw [exec_ld8 .indHl src s (fun h => hs h.2), load8, if_pos (.inl rfl)]
  rfl

theorem exec_ldImm8_reg (hd : dst ≠ .indHl) (n : Byte) :
    exec (Instr.ldImm8 n dst) s = .next ((setOperand8 dst n s).withCycles 8) := by
  rw [exec_ldImm8, loadImm8, costOf, if_neg hd]

end

/-! ## The moves that step HL (R215 to R218) -/

theorem memWrite_hl (s : State) (a : Word) (v : Byte) : (memWrite s a v).hl = s.hl := by simp [State.hl]

theorem storeAStep_eq (k : Word) (s : State) :
    storeAStep k s = (setPair .hl (s.hl + k) (memWrite s s.hl s.cpu.a)).withCycles 8 := by
  rw [storeAStep, memWrite_hl]
  rfl

/-- The store is made at the old HL, with the HL after it one step further. -/
theorem storeAStep_effect (k : Word) (s : State) :
    (storeAStep k s).hl = s.hl + k ∧ Keeps [.h, .l] s (storeAStep k s) ∧ SameControl s (storeAStep k s) ∧
      Stores [(s.hl, s.cpu.a)] s (storeAStep k s) ∧ (storeAStep k s).cycles = 8 := by
  rw [storeAStep_eq]
  obtain ⟨hKeeps, hControl, -, -⟩ := regOnly_setPair .hl (s.hl + k) ((memWrite s s.hl s.cpu.a).withCycles 8) 8
  exact ⟨pairValue_setPair .hl .., (keeps_memWrite [] s s.hl s.cpu.a 8).trans hKeeps,
    (sameControl_memWrite s s.hl s.cpu.a 8).trans hControl, stores_one .., rfl⟩

/-- The load reads at the old HL; A and then HL are written. -/
theorem loadAStep_effect (k : Word) (s : State) :
    (loadAStep k s).cpu.a = memRead s s.hl ∧ (loadAStep k s).hl = s.hl + k ∧
      RegOnly [.a, .h, .l] s (loadAStep k s) ∧ (loadAStep k s).cycles = 8 := by
  have hA := regOnly_setOperand8 (r := .a) nofun (memRead s s.hl) s 8
  have hHl := regOnly_setPair .hl (s.hl + k) ((s.setA (memRead s s.hl)).withCycles 8) 8
  exact ⟨rfl, joinBytes_hi_lo (s.hl + k), hA.trans hHl, rfl⟩

/-! ## The statements -/

/-- Settles O5: each form is one register write, of a value read before it. -/
theorem registerLoads : Obligations.RegisterLoads := by
  intro s dst hd
  exact ⟨fun r hr => ⟨encode_ld8 dst r, exec_effect_of_setOperand8 hd (exec_ld8_regs s hd hr)⟩,
    fun n => ⟨encode_ldImm8 n dst, exec_effect_of_setOperand8 hd (exec_ldImm8_reg s hd n)⟩,
    encode_ld8 dst .indHl, exec_effect_of_setOperand8 hd (exec_ld8_fromHl s hd)⟩

/-- Settles O6: each of the five is `loadA` at its address. -/
theorem accumulatorLoads : Obligations.AccumulatorLoads := by
  intro s n nn
  exact ⟨loadsA_of_exec rfl rfl, loadsA_of_exec rfl rfl, loadsA_of_exec rfl rfl, loadsA_of_exec rfl rfl,
    loadsA_of_exec rfl rfl⟩

/-- Settles O7: each form is one bus write at its address. -/
theorem byteStores : Obligations.ByteStores := by
  intro s n nn
  exact ⟨fun r hr => storesByte_of_exec (encode_ld8 .indHl r) (exec_ld8_toHl s hr),
    storesByte_of_exec (encode_ldImm8 n .indHl) (exec_ldImm8 n .indHl s), storesByte_of_exec rfl rfl,
    storesByte_of_exec rfl rfl, storesByte_of_exec rfl rfl, storesByte_of_exec rfl rfl, storesByte_of_exec rfl rfl⟩

/-- Settles O8: the two stores are `storeAStep` and the two loads `loadAStep`, by 1 and by -1. -/
theorem steppingMoves : Obligations.SteppingMoves := by
  intro s
  rw [sub_eq_add_neg s.hl 1]
  exact ⟨⟨rfl, _, rfl, storeAStep_effect 1 s⟩, ⟨rfl, _, rfl, storeAStep_effect (-1) s⟩,
    ⟨rfl, _, rfl, loadAStep_effect 1 s⟩, ⟨rfl, _, rfl, loadAStep_effect (-1) s⟩⟩

end Sys2Proof.Machine
end

section
/-! PROOFS. The statements about the 8-bit arithmetic and logic (42_alu8.md). An operation is a result, whose fields are
the numbers of its rule, and the writes of that result: the flags, and A or the operand. -/

namespace Sys2Proof.Machine

/-! ## Writing flags (R31) -/

/-- The flags that a result leaves. -/
structure FlagsAre (r : AluResult) (t : State) : Prop where
  z : t.fz = r.z
  n : t.fn = r.n
  h : t.fh = r.h
  c : t.fc = r.c
  clean : FlagsClean t

theorem flagsAre_setResultFlags (r : AluResult) (s : State) (n : Nat) :
    FlagsAre r ((setResultFlags r s).withCycles n) :=
  ⟨State.fz_of_packFlags rfl, State.fn_of_packFlags rfl, State.fh_of_packFlags rfl, State.fc_of_packFlags rfl,
    flagsClean_packFlags rfl⟩

/-- Writing the flags changes F only. -/
theorem regOnly_setFlags (z n h c : Bool) (s : State) (k : Nat) :
    RegOnly [.f] s ((s.setFlags z n h c).withCycles k) := by
  refine regOnly_setCpu k (fun q hq => ?_) ⟨rfl, rfl, rfl, rfl, rfl⟩
  cases q with
  | f => exact absurd (List.mem_singleton_self _) hq
  | _ => rfl

/-- The flags may be written before the operand: no operand is F, and no bus write reads it. -/
theorem setFlags_setOperand8 (z n h c : Bool) (r : Operand8) (v : Byte) (s : State) :
    (setOperand8 r v s).setFlags z n h c = setOperand8 r v (s.setFlags z n h c) := by
  cases r with
  | indHl => simp [setOperand8, State.hl]
  | _ => rfl

/-- R142, R360: a read-modify-write form that writes its operand and the flags. -/
theorem operandBecomes_setFlags (z n h c : Bool) (r : Operand8) (w : Byte) (s : State) (k : Nat) :
    OperandBecomes r w [.f] s (((setOperand8 r w s).setFlags z n h c).withCycles k) := by
  unfold OperandBecomes
  split_ifs with hr
  · subst hr
    obtain ⟨hKeeps, hControl, -, -⟩ := regOnly_setFlags z n h c ((memWrite s s.hl w).withCycles k) k
    exact ⟨stores_one .., (keeps_memWrite [] s s.hl w k).trans hKeeps, (sameControl_memWrite s s.hl w k).trans hControl⟩
  · rw [setFlags_setOperand8]
    exact ⟨operand8_setOperand8 hr .., (regOnly_setFlags z n h c s k).trans (regOnly_setOperand8 hr w _ k)⟩

/-! ## The results in unbounded integers (R230 to R241) -/

theorem add8_value_toNat (a x : Byte) (c : Bool) :
    (add8 a x c).value.toNat = (a.toNat + x.toNat + c.toNat) % 256 :=
  BitVec.toNat_ofNat ..

theorem sub8_value_toNat (a x : Byte) (c : Bool) :
    ((sub8 a x c).value.toNat : Int) = ((a.toNat : Int) - x.toNat - c.toNat) % 256 := by
  show ((BitVec.ofInt 8 _).toNat : Int) = _
  rw [BitVec.toNat_ofInt, Int.toNat_of_nonneg (Int.emod_nonneg _ (by decide))]
  rfl

/-- R233, R238: without a borrow in, the difference is 0 when the operands are equal. -/
theorem sub8_false_z (a x : Byte) : (sub8 a x false).z = decide (a.toNat = x.toNat) := by
  have ha := a.isLt
  have hx := x.isLt
  refine decide_eq_decide.mpr ?_
  simp only [Bool.toNat_false]
  omega

theorem sub8_false_c (a x : Byte) : (sub8 a x false).c = decide (a.toNat < x.toNat) := by
  refine decide_eq_decide.mpr ?_
  simp only [Bool.toNat_false]
  omega

theorem and_0x0F_toNat (v : Byte) : (v &&& 0x0F#8).toNat = v.toNat % 16 :=
  (BitVec.toNat_and ..).trans (Nat.and_two_pow_sub_one_eq_mod v.toNat 4)

theorem incResult_h (v : Byte) (c : Bool) : (incResult v c).h = decide (v.toNat % 16 = 15) := by
  refine decide_eq_decide.mpr ?_
  rw [← BitVec.toNat_inj, and_0x0F_toNat]
  rfl

theorem decResult_h (v : Byte) (c : Bool) : (decResult v c).h = decide (v.toNat % 16 = 0) := by
  refine decide_eq_decide.mpr ?_
  rw [← BitVec.toNat_inj, and_0x0F_toNat]
  rfl

theorem decResult_value_toNat (v : Byte) (c : Bool) : (decResult v c).value.toNat = (v.toNat + 255) % 256 := by
  show (v - 1#8).toNat = _
  rw [BitVec.toNat_sub, Nat.add_comm]
  rfl

/-! ## The operations on A (R231 to R238) -/

/-- The result in A and in the flags is the one that the rule of the operation gives. -/
theorem aluEffect_aluOnA (op : AluOp) (v : Byte) (s : State) (n : Nat) :
    AluEffect op v s ((aluOnA op v s).withCycles n) := by
  have hf : FlagsAre (aluResult op s.cpu.a v s.fc) ((aluOnA op v s).withCycles n) := flagsAre_setResultFlags ..
  cases op with
  | add => exact ⟨add8_value_toNat s.cpu.a v false, hf.z, hf.n, hf.h, hf.c⟩
  | adc => exact ⟨add8_value_toNat s.cpu.a v s.fc, hf.z, hf.n, hf.h, hf.c⟩
  | sub =>
    have hv := sub8_value_toNat s.cpu.a v false
    rw [Bool.toNat_false, Nat.cast_zero, sub_zero] at hv
    exact ⟨hv, hf.z.trans (sub8_false_z ..), hf.n, hf.h, hf.c.trans (sub8_false_c ..)⟩
  | sbc => exact ⟨sub8_value_toNat s.cpu.a v s.fc, hf.z, hf.n, hf.h, hf.c⟩
  | and | xor | or => exact ⟨rfl, hf.z, hf.n, hf.h, hf.c⟩
  | cp => exact ⟨rfl, hf.z.trans (sub8_false_z ..), hf.n, hf.h, hf.c.trans (sub8_false_c ..)⟩

/-- CP writes the flags only; the others write A and then the flags. -/
theorem regOnly_aluOnA (op : AluOp) (v : Byte) (s : State) (n : Nat) :
    RegOnly (if op = .cp then [.f] else [.a, .f]) s ((aluOnA op v s).withCycles n) := by
  unfold aluOnA
  split_ifs
  · exact regOnly_setFlags _ _ _ _ s n
  · exact (regOnly_setOperand8 (r := .a) nofun _ s n).trans (regOnly_setFlags _ _ _ _ _ n)

/-- R230: an instruction that performs an operation on A has exactly the effect of the operation's rule. -/
theorem exec_effect_of_aluOnA {i : Instr} {op : AluOp} {v : Byte} {s : State} {n : Nat}
    (he : exec i s = .next ((aluOnA op v s).withCycles n)) :
    ∃ t, exec i s = .next t ∧ AluEffect op v s t ∧ FlagsClean t ∧
      RegOnly (if op = .cp then [.f] else [.a, .f]) s t ∧ t.cycles = n :=
  ⟨_, he, aluEffect_aluOnA op v s n, flagsClean_packFlags rfl, regOnly_aluOnA op v s n, rfl⟩

/-! ## INC and DEC (R239 to R242) -/

theorem incEffect_incOperand (r : Operand8) (s : State) :
    IncEffect (operand8 r s) (incResult (operand8 r s) s.fc).value s (incOperand r s) := by
  have hf : FlagsAre (incResult (operand8 r s) s.fc) (incOperand r s) := flagsAre_setResultFlags ..
  exact ⟨BitVec.toNat_add .., hf.z, hf.n, hf.h.trans (incResult_h ..), hf.c, hf.clean⟩

theorem decEffect_decOperand (r : Operand8) (s : State) :
    DecEffect (operand8 r s) (decResult (operand8 r s) s.fc).value s (decOperand r s) := by
  have hf : FlagsAre (decResult (operand8 r s) s.fc) (decOperand r s) := flagsAre_setResultFlags ..
  exact ⟨decResult_value_toNat .., hf.z, hf.n, hf.h.trans (decResult_h ..), hf.c, hf.clean⟩

/-! ## Encodings (R146) -/

theorem encode_alu8 (op : AluOp) (r : Operand8) :
    encode (Instr.alu8 op r) = [opByte 2 (aluCode op) (operandCode r)] := by
  cases op <;> cases r <;> rfl

theorem encode_aluImm (n : Byte) (op : AluOp) : encode (Instr.aluImm n op) = [opByte 3 (aluCode op) 6, n] := by
  cases op <;> rfl

theorem encode_inc8 (r : Operand8) : encode (Instr.inc8 r) = [opByte 0 (operandCode r) 4] := by
  cases r <;> rfl

theorem encode_dec8 (r : Operand8) : encode (Instr.dec8 r) = [opByte 0 (operandCode r) 5] := by
  cases r <;> rfl

/-! ## The statements -/

/-- Settles O9: every form is the operation on A with its operand. -/
theorem aluForms : Obligations.AluForms := by
  intro s op
  exact ⟨fun r => ⟨encode_alu8 op r, exec_effect_of_aluOnA (exec_alu8 op r s)⟩,
    fun n => ⟨encode_aluImm n op, exec_effect_of_aluOnA (exec_aluImm n op s)⟩⟩

/-- Settles O10: each form writes its operand and the flags of one result, which keeps the carry. -/
theorem incDecForms : Obligations.IncDecForms := by
  intro s r
  exact ⟨⟨encode_inc8 r, _, _, exec_inc8 r s, incEffect_incOperand r s, operandBecomes_setFlags .., rfl⟩,
    encode_dec8 r, _, _, exec_dec8 r s, decEffect_decOperand r s, operandBecomes_setFlags .., rfl⟩

end Sys2Proof.Machine
end

section
/-! PROOFS. The statements about the 16-bit loads and the stack (43_load16_stack.md). A push is two bus writes and a
lower SP, a pop is register writes only; in RAM a pop reads back the word that the push before it wrote. -/

namespace Sys2Proof.Machine

/-! ## Encodings (R146) -/

theorem encode_ldImm16 (nn : Word) (p : Pair) :
    encode (Instr.ldImm16 nn p) = [opByte 0 (2 * pairCode p) 1, loByte nn, hiByte nn] := by
  cases p <;> rfl

theorem encode_push (p : StackPair) : encode (Instr.push p) = [opByte 3 (2 * stackPairCode p) 5] := by
  cases p <;> rfl

theorem encode_pop (p : StackPair) : encode (Instr.pop p) = [opByte 3 (2 * stackPairCode p) 1] := by
  cases p <;> rfl

/-! ## States with the same CPU -/

section

variable {s t : State}

theorem keeps_of_cpu_eq (h : t.cpu = s.cpu) : Keeps [] s t := by
  intro r _
  cases r <;> simp [Reg.value, h]

theorem sameControl_of_cpu_eq (h : t.cpu = s.cpu) : SameControl s t := by
  simp [SameControl, h]

theorem stackPairValue_of_cpu_eq (h : t.cpu = s.cpu) (p : StackPair) : stackPairValue p t = stackPairValue p s := by
  cases p <;> simp [stackPairValue, State.bc, State.de, State.hl, State.af, h]

end

/-! ## Storing SP (R261) -/

theorem stores_storeSp (nn : Word) (s : State) :
    Stores [(nn, loByte s.cpu.sp), (nn + 1, hiByte s.cpu.sp)] s (storeSp nn s) :=
  stores_two s nn (nn + 1) (loByte s.cpu.sp) (hiByte s.cpu.sp) (storeSp nn s).cpu 20

/-! ## Pushing (R8, R263) -/

section

variable (v : Word) (s : State) (n : Nat)

/-- The two bus writes of a push, whatever the registers after it, SP apart. -/
theorem pushes_push16 {c : Cpu} (hsp : c.sp = s.cpu.sp - 2) : Pushes v s (((push16 v s).setCpu c).withCycles n) := by
  rw [push16_eq', State.setCpu_setCpu]
  exact ⟨hsp, stores_two ..⟩

theorem keeps_push16 : Keeps [.sp] s ((push16 v s).withCycles n) := by
  rw [push16_eq']
  intro r hr
  cases r with
  | sp => exact absurd (List.mem_singleton_self _) hr
  | _ => rfl

theorem sameControl_push16 : SameControl s ((push16 v s).withCycles n) := by
  simp [SameControl]

end

theorem pushes_pushPair (p : StackPair) (s : State) : Pushes (stackPairValue p s) s (pushPair p s) :=
  pushes_push16 _ s 16 (c := (push16 (stackPairValue p s) s).cpu) (by rw [push16_cpu])

/-! ## Popping (R8, R264, R265) -/

theorem popPair_sp (p : StackPair) (s : State) : (popPair p s).cpu.sp = s.cpu.sp + 2 := by
  cases p <;> rfl

/-- R264: every pair but AF holds the popped word. -/
theorem stackPairValue_popPair {p : StackPair} (hp : p ≠ .af) (s : State) :
    stackPairValue p (popPair p s) = stackTop s := by
  cases p with
  | af => exact absurd rfl hp
  | _ => exact joinBytes_hi_lo (stackTop s)

/-- A pop changes SP and the registers of its pair only. -/
theorem regOnly_popPair (p : StackPair) (s : State) : RegOnly (.sp :: stackPairRegs p) s (popPair p s) := by
  cases p with
  | _ =>
    refine regOnly_setCpu 12 (fun q hq => ?_) ⟨rfl, rfl, rfl, rfl, rfl⟩
    cases q <;> simp [stackPairRegs] at hq <;> rfl

/-! ## A pop after a push -/

theorem and_0xF0_of_low_zero {f : Byte} (h : f &&& 0x0F#8 = 0#8) : f &&& 0xF0#8 = f := by
  revert f; decide

/-- Writing a pair's own value back changes nothing; of AF this needs a clean F (R265). -/
theorem setStackPair_stackPairValue (p : StackPair) {s : State} (hf : FlagsClean s) :
    setStackPair p (stackPairValue p s) s = s := by
  cases p <;>
    simp only [setStackPair, stackPairValue, State.setBc_eq, State.setDe_eq, State.setHl_eq, State.setAf_eq, State.bc,
      State.de, State.hl, State.af, hiByte_joinBytes, loByte_joinBytes, and_0xF0_of_low_zero hf] <;>
    rfl

theorem popValue_withCycles (s : State) (n : Nat) : popValue (s.withCycles n) = popValue s := by
  simp [popValue]

/-- Two neighbouring bytes of RAM do not affect each other: an echo is 0x2000 away. -/
theorem affects_neighbour_ram {a : Word} (h1 : inRam (a - 1) = true) (h2 : inRam (a - 2) = true) :
    affects (a - 2) (a - 1) = false :=
  affects_ram h2 h1 (by bv_omega) (by bv_omega) (by bv_omega)

/-- R8: in RAM a pop reads the word that was pushed. -/
theorem popValue_push16 (v : Word) {s : State} (h1 : inRam (s.cpu.sp - 1) = true) (h2 : inRam (s.cpu.sp - 2) = true) :
    popValue (push16 v s) = v := by
  have hsp : s.cpu.sp - 2 + 1 = s.cpu.sp - 1 := by bv_omega
  have hHigh : memRead (push16 v s) (s.cpu.sp - 1) = hiByte v := by
    rw [push16_eq', memRead_setCpu, memRead_memWrite_of_not_affects _ _ (affects_neighbour_ram h1 h2),
      memRead_memWrite_ram _ _ h1]
  have hLow : memRead (push16 v s) (s.cpu.sp - 2) = loByte v := by
    rw [push16_eq', memRead_setCpu, memRead_memWrite_ram _ _ h2]
  rw [popValue, push16_cpu, hsp, hHigh, hLow, joinBytes_hi_lo]

theorem popSp_pushPair_cpu (p : StackPair) (s : State) : (popSp (pushPair p s)).cpu = s.cpu := by
  simp [popSp, pushPair]

/-- The pop raises SP to what it was, reads the word pushed, and writes it back to the pair that holds it. -/
theorem popPair_pushPair_cpu (p : StackPair) {s : State} (hf : FlagsClean s) (h1 : inRam (s.cpu.sp - 1) = true)
    (h2 : inRam (s.cpu.sp - 2) = true) : (popPair p (pushPair p s)).cpu = s.cpu := by
  have hcpu := popSp_pushPair_cpu p s
  have hclean : FlagsClean (popSp (pushPair p s)) := by rwa [FlagsClean, hcpu]
  have hvalue : popValue (pushPair p s) = stackPairValue p (popSp (pushPair p s)) := by
    rw [stackPairValue_of_cpu_eq hcpu, pushPair, popValue_withCycles, popValue_push16 _ h1 h2]
  rw [popPair, hvalue, setStackPair_stackPairValue p hclean, State.withCycles_cpu, hcpu]

/-! ## The statements -/

/-- Settles O11: a write of a pair, the two bus writes of `storeSp`, and a write of SP. -/
theorem pairLoads : Obligations.PairLoads := by
  intro s nn
  exact ⟨fun p => ⟨encode_ldImm16 nn p, _, exec_ldImm16 nn p s, pairValue_setPair p nn s 12,
      regOnly_setPair p nn s 12, rfl⟩,
    ⟨rfl, _, rfl, stores_storeSp nn s, keeps_of_cpu_eq (storeSp_cpu nn s),
      sameControl_of_cpu_eq (storeSp_cpu nn s), rfl⟩,
    rfl, _, rfl, rfl, regOnly_setPair .sp s.hl s 8, rfl⟩

/-- Settles O12: every form is the shared push or pop of its pair; the pop of AF drops the low nibble of F. -/
theorem pushPop : Obligations.PushPop := by
  intro s
  exact ⟨fun p => ⟨encode_push p, _, exec_push p s, pushes_pushPair p s, keeps_push16 _ s 16,
      sameControl_push16 _ s 16, rfl⟩,
    fun p hp => ⟨encode_pop p, _, exec_pop p s, stackPairValue_popPair hp s, popPair_sp p s,
      regOnly_popPair p s, rfl⟩,
    rfl, _, rfl, rfl, rfl, popPair_sp .af s, regOnly_popPair .af s, rfl⟩

/-- Settles O13: the registers after the pop are those before the push. -/
theorem pushThenPop : Obligations.PushThenPop := by
  intro s p hf h1 h2
  exact ⟨_, _, exec_push p s, exec_pop p _, keeps_of_cpu_eq (popPair_pushPair_cpu p hf h1 h2)⟩

end Sys2Proof.Machine
end

section
/-! PROOFS. The statements about the 16-bit arithmetic (44_alu16.md). INC and DEC write one pair; the additions write
the flags and then one pair, and SP's displacement is a number from -128 to 127. -/

namespace Sys2Proof.Machine

/-! ## Encodings (R146) -/

theorem encode_addHl (p : Pair) : encode (Instr.addHl p) = [opByte 0 (2 * pairCode p + 1) 1] := by
  cases p <;> rfl

theorem encode_inc16 (p : Pair) : encode (Instr.inc16 p) = [opByte 0 (2 * pairCode p) 3] := by
  cases p <;> rfl

theorem encode_dec16 (p : Pair) : encode (Instr.dec16 p) = [opByte 0 (2 * pairCode p + 1) 3] := by
  cases p <;> rfl

/-! ## Writing the flags and then a pair (R280, R283, R284) -/

/-- No pair holds F. -/
theorem setPair_f (p : Pair) (v : Word) (s : State) : (setPair p v s).cpu.f = s.cpu.f := by
  cases p <;> rfl

section

variable (p : Pair) (v : Word) (z n h c : Bool) (s : State) (k : Nat)

theorem setPair_setFlags_f : ((setPair p v (s.setFlags z n h c)).withCycles k).cpu.f = packFlags z n h c :=
  setPair_f p v (s.setFlags z n h c)

theorem regOnly_setPair_setFlags :
    RegOnly (.f :: pairRegs p) s ((setPair p v (s.setFlags z n h c)).withCycles k) :=
  (regOnly_setFlags z n h c s s.cycles).trans (regOnly_setPair p v (s.setFlags z n h c) k)

end

/-- An instruction that writes the flags and then a pair has exactly that effect. -/
theorem exec_effect_of_setPair_setFlags {i : Instr} {p : Pair} {v : Word} {z n h c : Bool} {s : State} {k : Nat}
    (he : exec i s = .next ((setPair p v (s.setFlags z n h c)).withCycles k)) :
    ∃ t, exec i s = .next t ∧ pairValue p t = v ∧ t.fz = z ∧ t.fn = n ∧ t.fh = h ∧ t.fc = c ∧ FlagsClean t ∧
      RegOnly (.f :: pairRegs p) s t ∧ t.cycles = k := by
  have hf := setPair_setFlags_f p v z n h c s k
  exact ⟨_, he, pairValue_setPair p v _ k, State.fz_of_packFlags hf, State.fn_of_packFlags hf,
    State.fh_of_packFlags hf, State.fc_of_packFlags hf, flagsClean_packFlags hf,
    regOnly_setPair_setFlags p v z n h c s k, rfl⟩

/-! ## The results in unbounded integers (R280 to R284) -/

theorem sub_one_toNat (v : Word) : (v - 1).toNat = (v.toNat + 65535) % 65536 := by
  rw [BitVec.toNat_sub, Nat.add_comm]
  rfl

/-- `s8` of R5 is the two's complement number of the byte. -/
theorem signed8_eq_toInt (e : Byte) : signed8 e = e.toInt := by
  rw [signed8, BitVec.toInt_eq_toNat_cond]
  split_ifs <;> omega

theorem sext16_toInt (e : Byte) : (sext16 e).toInt = signed8 e := by
  rw [signed8_eq_toInt, sext16, BitVec.toInt_signExtend_of_le (by decide)]

/-- A word plus a sign-extended byte is the sum with the signed number, modulo 65536. -/
theorem add_sext16_toNat (v : Word) (e : Byte) :
    ((v + sext16 e).toNat : Int) = ((v.toNat : Int) + signed8 e) % 65536 := by
  rw [← sext16_toInt, BitVec.toNat_add, BitVec.toInt_eq_toNat_cond]
  split_ifs <;> omega

/-! ## The statements -/

/-- Settles O14: ADD HL,rr writes the flags and HL; INC and DEC write their pair. -/
theorem pairArithmetic : Obligations.PairArithmetic := by
  intro s p
  obtain ⟨t, he, hHl, hEffect⟩ := exec_effect_of_setPair_setFlags (p := .hl) (exec_addHl p s)
  exact ⟨⟨encode_addHl p, t, he, (congrArg BitVec.toNat hHl).trans (BitVec.toNat_add ..), hEffect⟩,
    ⟨encode_inc16 p, _, exec_inc16 p s,
      (congrArg BitVec.toNat (pairValue_setPair p _ s 8)).trans (BitVec.toNat_add ..), regOnly_setPair p _ s 8, rfl⟩,
    encode_dec16 p, _, exec_dec16 p s,
    (congrArg BitVec.toNat (pairValue_setPair p _ s 8)).trans (sub_one_toNat _), regOnly_setPair p _ s 8, rfl⟩

/-- Settles O15: both write the flags and then the sum, one to SP and the other to HL. -/
theorem stackDisplacement : Obligations.StackDisplacement := by
  intro s e
  obtain ⟨t, ht, hSp, htEffect⟩ := exec_effect_of_setPair_setFlags (i := .addSpE8 e) (s := s) (p := .sp) rfl
  obtain ⟨u, hu, hHl, huEffect⟩ := exec_effect_of_setPair_setFlags (i := .ldHlSpE8 e) (s := s) (p := .hl) rfl
  have hSum := add_sext16_toNat s.cpu.sp e
  exact ⟨⟨rfl, t, ht, (congrArg (fun w : Word => (w.toNat : Int)) hSp).trans hSum, htEffect⟩,
    rfl, u, hu, (congrArg (fun w : Word => (w.toNat : Int)) hHl).trans hSum, huEffect⟩

end Sys2Proof.Machine
end

section
/-! PROOFS. The statements about the rotates of A (45_rotate_a.md), and what a rotate or shift makes of a byte (R361 to
R368). A circular rotate is the rotate through carry that takes in the bit that leaves, and a shift is one that takes in a
fixed bit, so that the bytes come from RL and RR, and from SWAP. -/

namespace Sys2Proof.Machine

/-! ## The bits of a byte in unbounded integers -/

theorem bitOf_seven_eq (v : Byte) : bitOf v 7 = decide (v.toNat / 128 = 1) := by
  have hv := v.isLt
  refine Nat.testBit_eq_decide_div_mod_eq.trans (decide_eq_decide.mpr ?_)
  omega

theorem bitOf_zero_toNat (v : Byte) : (bitOf v 0).toNat = v.toNat % 2 :=
  (Nat.toNat_testBit v.toNat 0).trans (by rw [pow_zero, Nat.div_one])

theorem bitOf_seven_toNat (v : Byte) : (bitOf v 7).toNat = v.toNat / 128 := by
  have hv := v.isLt
  have hBit : (bitOf v 7).toNat = v.toNat / 128 % 2 := Nat.toNat_testBit v.toNat 7
  omega

/-! ## The rotated byte (R361 to R368) -/

section

variable (v : Byte) (c : Bool)

/-- R363: the carry comes in as bit 0. -/
theorem rotValue_rl_toNat : (rotValue .rl v c).toNat = (2 * v.toNat + c.toNat) % 256 := by
  have hHigh : (v <<< 1).toNat = v.toNat % 128 * 2 ^ 1 := by
    rw [BitVec.toNat_shiftLeft, Nat.shiftLeft_eq]
    omega
  have hLow : (if c then 0x01#8 else 0).toNat = c.toNat := by cases c <;> rfl
  have hc := c.toNat_lt
  show ((v <<< 1) ||| (if c then 0x01#8 else 0)).toNat = _
  rw [toNat_or_of_lt hHigh (hLow ▸ hc), hLow]
  omega

/-- R364: the carry comes in as bit 7. -/
theorem rotValue_rr_toNat : (rotValue .rr v c).toNat = v.toNat / 2 + 128 * c.toNat := by
  have hHigh : (if c then 0x80#8 else 0).toNat = c.toNat * 2 ^ 7 := by cases c <;> rfl
  have hLow : (v >>> 1).toNat = v.toNat / 2 := by rw [BitVec.toNat_ushiftRight]; rfl
  have hv := v.isLt
  show ((v >>> 1) ||| (if c then 0x80#8 else 0)).toNat = _
  rw [BitVec.or_comm, toNat_or_of_lt hHigh (by omega), hLow]
  omega

/-- R367: the halves trade places. -/
theorem rotValue_swap_toNat : (rotValue .swap v c).toNat = 16 * (v.toNat % 16) + v.toNat / 16 := by
  have hHigh : ((v &&& 0x0F#8) <<< 4).toNat = v.toNat % 16 * 2 ^ 4 := by
    rw [BitVec.toNat_shiftLeft, and_0x0F_toNat, Nat.shiftLeft_eq]
    omega
  have hLow : (v >>> 4).toNat = v.toNat / 16 := by rw [BitVec.toNat_ushiftRight, Nat.shiftRight_eq_div_pow]
  have hv := v.isLt
  show (((v &&& 0x0F#8) <<< 4) ||| (v >>> 4)).toNat = _
  rw [toNat_or_of_lt hHigh (by omega), hLow]
  omega

/-- R361: the bit that leaves comes in. -/
theorem rotValue_rlc_eq : rotValue .rlc v c = rotValue .rl v (bitOf v 7) := rfl

/-- R362: the bit that leaves comes in. -/
theorem rotValue_rrc_eq : rotValue .rrc v c = rotValue .rr v (bitOf v 0) := rfl

/-- R365: a 0 comes in. -/
theorem rotValue_sla_eq : rotValue .sla v c = rotValue .rl v false := BitVec.or_zero.symm

/-- R366: bit 7 stays. -/
theorem rotValue_sra_eq : rotValue .sra v c = rotValue .rr v (bitOf v 7) :=
  congrArg (v >>> 1 ||| ·) (BitVec.and_twoPow v 7)

/-- R368: a 0 comes in. -/
theorem rotValue_srl_eq : rotValue .srl v c = rotValue .rr v false := BitVec.or_zero.symm

/-- Byte and carry of each rotate and shift are those of its rule. -/
theorem rotEffect_rotValue (op : RotOp) :
    RotEffect op v.toNat c.toNat (rotValue op v c).toNat (rotCarry op v) := by
  cases op with
  | rlc => exact ⟨by rw [rotValue_rlc_eq, rotValue_rl_toNat, bitOf_seven_toNat], bitOf_seven_eq v⟩
  | rrc => exact ⟨by rw [rotValue_rrc_eq, rotValue_rr_toNat, bitOf_zero_toNat], getLsbD_zero_eq v⟩
  | rl => exact ⟨rotValue_rl_toNat v c, bitOf_seven_eq v⟩
  | rr => exact ⟨rotValue_rr_toNat v c, getLsbD_zero_eq v⟩
  | sla => exact ⟨by rw [rotValue_sla_eq, rotValue_rl_toNat]; rfl, bitOf_seven_eq v⟩
  | sra => exact ⟨by rw [rotValue_sra_eq, rotValue_rr_toNat, bitOf_seven_toNat], getLsbD_zero_eq v⟩
  | swap => exact ⟨rotValue_swap_toNat v c, rfl⟩
  | srl => exact ⟨by rw [rotValue_srl_eq, rotValue_rr_toNat]; rfl, getLsbD_zero_eq v⟩

end

/-! ## The rotates of A (R300 to R303) -/

/-- A rotate of A writes A and the flags only. -/
theorem regOnly_rotateA (op : RotOp) (s : State) : RegOnly [.a, .f] s (rotateA op s) :=
  (regOnly_setOperand8 (r := .a) nofun _ s 4).trans (regOnly_setFlags _ _ _ _ _ 4)

/-- An instruction that rotates A has exactly the effect of the rotate's rule, with Z clear whatever the result. -/
theorem exec_effect_of_rotateA {i : Instr} {op : RotOp} {s : State} (he : exec i s = .next (rotateA op s)) :
    ∃ t, exec i s = .next t ∧ RotEffect op s.cpu.a.toNat s.fc.toNat t.cpu.a.toNat t.fc ∧ t.fz = false ∧
      t.fn = false ∧ t.fh = false ∧ FlagsClean t ∧ RegOnly [.a, .f] s t ∧ t.cycles = 4 := by
  have hf : (rotateA op s).cpu.f = packFlags false false false (rotCarry op s.cpu.a) := rfl
  refine ⟨_, he, ?_, State.fz_of_packFlags hf, State.fn_of_packFlags hf, State.fh_of_packFlags hf,
    flagsClean_packFlags hf, regOnly_rotateA op s, rfl⟩
  rw [State.fc_of_packFlags hf]
  exact rotEffect_rotValue s.cpu.a s.fc op

/-! ## The statement -/

/-- Settles O16: each of the four instructions is the rotate of A that its row names. -/
theorem rotatesOfA : Obligations.RotatesOfA := by
  intro s p hp
  simp only [List.mem_cons, List.not_mem_nil, or_false] at hp
  obtain rfl | rfl | rfl | rfl := hp
  all_goals exact ⟨rfl, exec_effect_of_rotateA rfl⟩

end Sys2Proof.Machine
end

section
/-! PROOFS. The statement about the jumps (46_jumps.md). A jump writes PC; one whose condition fails writes nothing. -/

namespace Sys2Proof.Machine

/-! ## Encodings (R144, R146) -/

theorem encode_jpCond (nn : Word) (cc : Cond) :
    encode (Instr.jpCond nn cc) = [opByte 3 (condCode cc) 2, loByte nn, hiByte nn] := by
  cases cc <;> rfl

theorem encode_jrCond (e : Byte) (cc : Cond) : encode (Instr.jrCond e cc) = [opByte 0 (4 + condCode cc) 0, e] := by
  cases cc <;> rfl

/-! ## Conditions (R144) -/

theorem condHolds_iff (cc : Cond) (s : State) : condHolds cc s = true ↔ CondTrue cc s := by
  cases cc with
  | nz | nc => exact Iff.of_eq (Bool.not_eq_true' _)
  | z | c => exact Iff.rfl

/-! ## Writing PC (R310 to R314) -/

theorem regOnly_setPc (target : Word) (s : State) (n : Nat) : RegOnly [.pc] s ((s.setPc target).withCycles n) := by
  refine regOnly_setCpu n (fun q hq => ?_) ⟨rfl, rfl, rfl, rfl, rfl⟩
  cases q with
  | pc => exact absurd (List.mem_singleton_self _) hq
  | _ => rfl

section

variable {i : Instr} {s : State} {target : Word} {m n : Nat}

/-- R310, R312, R313: an instruction that writes PC has exactly that effect. -/
theorem exec_effect_of_setPc (he : exec i s = .next ((s.setPc target).withCycles n)) :
    ∃ t, exec i s = .next t ∧ t.cpu.pc = target ∧ RegOnly [.pc] s t ∧ t.cycles = n :=
  ⟨_, he, rfl, regOnly_setPc target s n, rfl⟩

/-- R311, R314: an instruction that writes PC under a condition has exactly that effect, at the cost of the outcome. -/
theorem exec_effect_of_setPc_if {cc : Cond}
    (he : exec i s = .next (if condHolds cc s then (s.setPc target).withCycles m else s.withCycles n)) :
    ∃ t, exec i s = .next t ∧ RegOnly [.pc] s t ∧ (CondTrue cc s → t.cpu.pc = target ∧ t.cycles = m) ∧
      (¬CondTrue cc s → t.cpu.pc = s.cpu.pc ∧ t.cycles = n) := by
  refine ⟨_, he, ?_⟩
  simp only [← condHolds_iff]
  split_ifs with hc
  · exact ⟨regOnly_setPc target s m, fun _ => ⟨rfl, rfl⟩, fun h => absurd hc h⟩
  · exact ⟨regOnly_withCycles [.pc] s n, fun h => absurd h hc, fun _ => ⟨rfl, rfl⟩⟩

end

/-! ## The statement -/

/-- Settles O17: each jump is a write of PC, made under a condition or not; a relative target is PC plus the signed
displacement. -/
theorem jumps : Obligations.Jumps := by
  intro s nn e cc
  have hRel {w : Word} (h : w = s.cpu.pc + sext16 e) : (w.toNat : Int) = ((s.cpu.pc.toNat : Int) + signed8 e) % 65536 :=
    h ▸ add_sext16_toNat s.cpu.pc e
  obtain ⟨t, ht, htPc, htEffect⟩ := exec_effect_of_setPc (i := .jrE8 e) (s := s) rfl
  obtain ⟨u, hu, huReg, huTaken, huNot⟩ := exec_effect_of_setPc_if (exec_jrCond e cc s)
  exact ⟨⟨rfl, exec_effect_of_setPc rfl⟩,
    ⟨encode_jpCond nn cc, exec_effect_of_setPc_if (exec_jpCond nn cc s)⟩,
    ⟨rfl, exec_effect_of_setPc rfl⟩,
    ⟨rfl, t, ht, hRel htPc, htEffect⟩,
    encode_jrCond e cc, u, hu, huReg, fun hc => (huTaken hc).imp_left hRel, huNot⟩

end Sys2Proof.Machine
end

section
/-! PROOFS. The statements about calls, restarts and returns (47_call_return.md). A call is the push of PC and a write of
PC; a return is two register writes, to which RETI adds the enable bits; one whose condition fails writes nothing. -/

namespace Sys2Proof.Machine

/-! ## Encodings (R144 to R146) -/

theorem encode_callCond (nn : Word) (cc : Cond) :
    encode (Instr.callCond nn cc) = [opByte 3 (condCode cc) 4, loByte nn, hiByte nn] := by
  cases cc <;> rfl

theorem encode_retCond (cc : Cond) : encode (Instr.retCond cc) = [opByte 3 (condCode cc) 0] := by
  cases cc <;> rfl

theorem encode_rst (y : Index8) : encode (Instr.rst y) = [opByte 3 (indexNat y) 7] := by
  cases y <;> rfl

theorem rstTarget_toNat (y : Index8) : (rstTarget y).toNat = 8 * indexNat y := by
  cases y <;> rfl

/-! ## An operation made under a condition (R321, R323) -/

/-- When the condition fails, an instruction made under it changes nothing and takes its short cost. -/
theorem exec_effect_of_if {i : Instr} {s t : State} {cc : Cond} {n : Nat} {effect : State → Prop}
    (he : exec i s = .next (if condHolds cc s then t else s.withCycles n)) (ht : effect t) :
    ∃ u, exec i s = .next u ∧ (CondTrue cc s → effect u) ∧ (¬CondTrue cc s → RegOnly [] s u ∧ u.cycles = n) := by
  refine ⟨_, he, ?_⟩
  simp only [← condHolds_iff]
  split_ifs with hc
  · exact ⟨fun _ => ht, fun h => absurd hc h⟩
  · exact ⟨fun h => absurd h hc, fun _ => ⟨regOnly_withCycles [] s n, rfl⟩⟩

/-! ## Pushing PC and going to a target (R320, R321, R325) -/

/-- A call is a push and then a write of PC, and changes what these two change. -/
theorem pushPcAndGo_effect (target : Word) (s : State) (n : Nat) {t : State}
    (ht : t = (pushPcAndGo target s).withCycles n) :
    Pushes s.cpu.pc s t ∧ t.cpu.pc = target ∧ Keeps [.sp, .pc] s t ∧ SameControl s t ∧ t.cycles = n := by
  subst ht
  obtain ⟨hKeeps, hControl, -, -⟩ := regOnly_setPc target ((push16 s.cpu.pc s).withCycles n) n
  exact ⟨pushes_push16 _ s n (by rw [push16_cpu]), rfl, (keeps_push16 _ s n).trans hKeeps,
    (sameControl_push16 _ s n).trans hControl, rfl⟩

/-! ## Popping PC (R322 to R324) -/

/-- The two register writes of a return, in the order of the claims. -/
theorem popPc_eq (s : State) : popPc s = setPair .sp (s.cpu.sp + 2) (s.setPc (popValue s)) := rfl

theorem regOnly_popPc (s : State) (n : Nat) : RegOnly [.pc, .sp] s ((popPc s).withCycles n) := by
  rw [popPc_eq]
  exact (regOnly_setPc (popValue s) s n).trans (regOnly_setPair .sp _ ((s.setPc (popValue s)).withCycles n) n)

/-- R322, R323: PC from the stack, SP two higher, and nothing else. -/
theorem popPc_effect (s : State) (n : Nat) {t : State} (ht : t = (popPc s).withCycles n) :
    t.cpu.pc = stackTop s ∧ t.cpu.sp = s.cpu.sp + 2 ∧ RegOnly [.pc, .sp] s t ∧ t.cycles = n := by
  subst ht
  exact ⟨rfl, rfl, regOnly_popPc s n, rfl⟩

/-- R324: RETI is RET, and then a write of the two enable bits. -/
theorem reti_eq (s : State) :
    reti s = ((ret s).setCpu { (ret s).cpu with ime := true, imeScheduled := false }).withCycles 16 := rfl

/-- No register holds an enable bit. -/
theorem keeps_setEnables (s : State) (ime imeScheduled : Bool) (n : Nat) :
    Keeps [] s ((s.setCpu { s.cpu with ime := ime, imeScheduled := imeScheduled }).withCycles n) := by
  intro r _
  cases r <;> rfl

/-- R324: RETI changes the registers that RET changes, and only registers and the enable bits. -/
theorem reti_frame (s : State) : Keeps [.pc, .sp] s (reti s) ∧ SameDevices s (reti s) ∧ SameReads s (reti s) := by
  obtain ⟨hKeeps, -, hDevices, hReads⟩ := regOnly_popPc s 16
  rw [reti_eq]
  exact ⟨hKeeps.trans (keeps_setEnables (ret s) true false 16), hDevices.trans (sameDevices_setCpu (ret s) _ 16),
    fun a => (sameReads_setCpu (ret s) _ 16 a).trans (hReads a)⟩

/-! ## The statements -/

/-- Settles O18: every form is the push of PC and a write of PC, made under a condition or not. -/
theorem calls : Obligations.Calls := by
  intro s nn cc y
  obtain ⟨hPushes, hPc, hRst⟩ := pushPcAndGo_effect (rstTarget y) s 16 rfl
  exact ⟨⟨rfl, _, rfl, pushPcAndGo_effect nn s 24 rfl⟩,
    ⟨encode_callCond nn cc, exec_effect_of_if (exec_callCond nn cc s) (pushPcAndGo_effect nn s 24 rfl)⟩,
    encode_rst y, _, exec_rst y s, hPushes, hPc ▸ rstTarget_toNat y, hRst⟩

/-- Settles O19: every form is the pop of PC, made under a condition or not; RETI then writes the enable bits. -/
theorem returns : Obligations.Returns := by
  intro s cc
  obtain ⟨hKeeps, hDevices, hReads⟩ := reti_frame s
  exact ⟨⟨rfl, _, rfl, popPc_effect s 16 rfl⟩,
    ⟨encode_retCond cc, exec_effect_of_if (exec_retCond cc s) (popPc_effect s 20 rfl)⟩,
    rfl, _, rfl, rfl, rfl, rfl, rfl, rfl, rfl, rfl, hKeeps, hDevices, hReads, rfl⟩

end Sys2Proof.Machine
end

section
/-! PROOFS. The statements about the control and miscellaneous instructions (48_misc_control.md): what each changes, what
DAA makes of a packed-BCD sum or difference, and the step that fetches and runs one instruction, EI and the step after it
included. -/

namespace Sys2Proof.Machine

/-! ## NOP, STOP, HALT, DI and EI (R341 to R345) -/

/-- Settles O20: NOP and STOP only cost cycles; HALT, DI and EI write control bits of the CPU. -/
theorem controlForms : Obligations.ControlForms := by
  intro s n
  exact ⟨⟨rfl, _, rfl, regOnly_withCycles [] s 4, rfl⟩,
    ⟨rfl, _, rfl, regOnly_withCycles [] s 4, rfl⟩,
    ⟨rfl, _, rfl, rfl, sameDevices_setCpu s _ 4, sameReads_setCpu s _ 4, rfl⟩,
    ⟨rfl, _, rfl, rfl, sameDevices_setCpu s _ 4, sameReads_setCpu s _ 4, rfl⟩,
    rfl, _, rfl, rfl, sameDevices_setCpu s _ 4, sameReads_setCpu s _ 4, rfl⟩

/-! ## DAA in unbounded integers (R346) -/

theorem toNat_ite_add (p : Prop) [Decidable p] (v k : Byte) :
    (if p then v + k else v).toNat = (v.toNat + if p then k.toNat else 0) % 256 := by
  split_ifs
  · exact BitVec.toNat_add ..
  · exact (Nat.mod_eq_of_lt v.isLt).symm

theorem toNat_ite_sub (p : Prop) [Decidable p] (v k : Byte) :
    ((if p then v - k else v).toNat : Int) = ((v.toNat : Int) - if p then (k.toNat : Int) else 0) % 256 := by
  have hv := v.isLt
  have hk := k.isLt
  split_ifs
  · rw [BitVec.toNat_sub]
    omega
  · omega

section

variable (a : Byte) (h c : Bool)

/-- After an addition: the correction of the high digit leaves the low digit, so the low digit may be read before it. -/
theorem daaAdjust_add : ∃ v carry, daaAdjust a false h c = (v, carry) ∧ carry = (c || decide (0x99 < a.toNat)) ∧
    v.toNat = (a.toNat + (if carry then 0x60 else 0) + (if h = true ∨ 0x09 < a.toNat % 16 then 0x06 else 0)) % 256 := by
  refine ⟨_, _, rfl, rfl, ?_⟩
  generalize (c || decide (0x99 < a.toNat)) = carry
  have hLow : (if carry then a + 0x60#8 else a).toNat % 16 = a.toNat % 16 := by
    rw [toNat_ite_add]
    change (a.toNat + if carry then 0x60 else 0) % 256 % 16 = _
    split_ifs <;> omega
  rw [toNat_ite_add, toNat_ite_add, and_0x0F_toNat, hLow, Nat.mod_add_mod]
  simp only [Bool.or_eq_true, decide_eq_true_eq]
  rfl

/-- After a subtraction. -/
theorem daaAdjust_sub : ∃ v, daaAdjust a true h c = (v, c) ∧
    (v.toNat : Int) = ((a.toNat : Int) - (if c then 0x60 else 0) - (if h then 0x06 else 0)) % 256 := by
  refine ⟨_, rfl, ?_⟩
  rw [toNat_ite_sub, toNat_ite_sub, Int.emod_sub_emod]
  rfl

end

section

variable {s : State}

theorem decimalAdjust_cpu {v : Byte} {carry : Bool} (h : daaAdjust s.cpu.a s.fn s.fh s.fc = (v, carry)) :
    (decimalAdjust s).cpu = { s.cpu with a := v, f := packFlags (v == 0) s.fn false carry } := by
  unfold decimalAdjust
  rw [h]
  rfl

/-- R346 with N clear. -/
theorem decimalAdjust_after_add (hn : s.fn = false) :
    (decimalAdjust s).fc = (s.fc || decide (0x99 < s.cpu.a.toNat)) ∧
      (decimalAdjust s).cpu.a.toNat = (s.cpu.a.toNat + (if (decimalAdjust s).fc then 0x60 else 0) +
        (if s.fh = true ∨ 0x09 < s.cpu.a.toNat % 16 then 0x06 else 0)) % 256 := by
  obtain ⟨v, carry, he, hc, hv⟩ := daaAdjust_add s.cpu.a s.fh s.fc
  have hCpu := decimalAdjust_cpu (hn ▸ he)
  rw [State.fc_of_packFlags (congrArg Cpu.f hCpu), hCpu]
  exact ⟨hc, hv⟩

/-- R346 with N set. -/
theorem decimalAdjust_after_sub (hn : s.fn = true) :
    (decimalAdjust s).fc = s.fc ∧ ((decimalAdjust s).cpu.a.toNat : Int) =
      ((s.cpu.a.toNat : Int) - (if s.fc then 0x60 else 0) - (if s.fh then 0x06 else 0)) % 256 := by
  obtain ⟨v, he, hv⟩ := daaAdjust_sub s.cpu.a s.fh s.fc
  have hCpu := decimalAdjust_cpu (hn ▸ he)
  rw [State.fc_of_packFlags (congrArg Cpu.f hCpu), hCpu]
  exact ⟨rfl, hv⟩

end

/-! ## DAA, CPL, CCF and SCF (R346 to R349) -/

/-- Writing A and the flags changes A and F only. -/
theorem regOnly_setA_setFlags (v : Byte) (z n h c : Bool) (s : State) (k : Nat) :
    RegOnly [.a, .f] s (((s.setA v).setFlags z n h c).withCycles k) :=
  (regOnly_setOperand8 (r := .a) nofun v s k).trans (regOnly_setFlags z n h c _ k)

/-- R348, R349: an instruction that writes the flags has exactly that effect. -/
theorem exec_effect_of_setFlags {i : Instr} {s : State} {z n h c : Bool} {k : Nat}
    (he : exec i s = .next ((s.setFlags z n h c).withCycles k)) :
    ∃ t, exec i s = .next t ∧ t.fz = z ∧ t.fn = n ∧ t.fh = h ∧ t.fc = c ∧ FlagsClean t ∧ RegOnly [.f] s t ∧
      t.cycles = k :=
  ⟨_, he, State.fz_of_packFlags rfl, State.fn_of_packFlags rfl, State.fh_of_packFlags rfl, State.fc_of_packFlags rfl,
    flagsClean_packFlags rfl, regOnly_setFlags z n h c s k, rfl⟩

/-- Settles O21: each instruction writes the flags, and DAA and CPL write A too. -/
theorem accumulatorAdjust : Obligations.AccumulatorAdjust := by
  intro s
  refine ⟨⟨rfl, ?daa⟩, ⟨rfl, ?cpl⟩, ⟨rfl, exec_effect_of_setFlags rfl⟩, rfl, exec_effect_of_setFlags rfl⟩
  case daa =>
    exact ⟨_, rfl, decimalAdjust_after_add, decimalAdjust_after_sub,
      (State.fz_of_packFlags rfl).trans (beq_eq_decide ..), State.fn_of_packFlags rfl, State.fh_of_packFlags rfl,
      flagsClean_packFlags rfl, regOnly_setA_setFlags _ _ _ _ _ s 4, rfl⟩
  case cpl =>
    exact ⟨_, rfl, rfl, State.fz_of_packFlags rfl, State.fn_of_packFlags rfl, State.fh_of_packFlags rfl,
      State.fc_of_packFlags rfl, flagsClean_packFlags rfl, regOnly_setA_setFlags _ _ _ _ _ s 4, rfl⟩

/-! ## DAA after ADD or SUB of packed-BCD numbers (R231, R233, R346) -/

theorem bcd_digits_toNat {p q : Nat} (hp : p < 10) (hq : q < 10) : (bcd (10 * p + q)).toNat = 16 * p + q := by
  unfold bcd
  rw [BitVec.toNat_ofNat]
  omega

/-- A number below 100 has two digits, which are the halves of its packed-BCD byte. -/
theorem exists_digits {x : Nat} (h : x < 100) :
    ∃ p < 10, ∃ q < 10, x = 10 * p + q ∧ (bcd x).toNat = 16 * p + q := by
  refine ⟨x / 10, by omega, x % 10, by omega, by omega, ?_⟩
  rw [← bcd_digits_toNat, Nat.div_add_mod] <;> omega

section

variable {x y : Nat} (hx : x < 100) (hy : y < 100)

include hx hy

/-- R346: the test for the correction of the high digit, on what ADD leaves, finds the decimal carry. -/
theorem bcd_add_carry_iff :
    (0xFF < (bcd x).toNat + (bcd y).toNat ∨ 0x99 < ((bcd x).toNat + (bcd y).toNat) % 256) ↔ 100 ≤ x + y := by
  obtain ⟨p, hp, q, hq, hxDigits, hxByte⟩ := exists_digits hx
  obtain ⟨r, hr, t, ht, hyDigits, hyByte⟩ := exists_digits hy
  omega

/-- R346: the corrections make the binary sum decimal. The carry `d` out of the low digits decides the low correction, the
carry `c` out of the high digits decides the high one. -/
theorem bcd_add_corrected :
    (((bcd x).toNat + (bcd y).toNat) % 256 + (if 100 ≤ x + y then 0x60 else 0) +
      (if 0x0F < (bcd x).toNat % 16 + (bcd y).toNat % 16 ∨ 0x09 < ((bcd x).toNat + (bcd y).toNat) % 256 % 16 then 0x06
        else 0)) % 256 = (bcd ((x + y) % 100)).toNat := by
  obtain ⟨p, hp, q, hq, hxDigits, hxByte⟩ := exists_digits hx
  obtain ⟨r, hr, t, ht, hyDigits, hyByte⟩ := exists_digits hy
  generalize (bcd x).toNat = a, (bcd y).toNat = b at *
  obtain ⟨low, hLow, d, hd, hLowDigit⟩ : ∃ low < 10, ∃ d < 2, q + t = 10 * d + low :=
    ⟨(q + t) % 10, by omega, (q + t) / 10, by omega, by omega⟩
  obtain ⟨high, hHigh, c, hc, hHighDigit⟩ : ∃ high < 10, ∃ c < 2, p + r + d = 10 * c + high :=
    ⟨(p + r + d) % 10, by omega, (p + r + d) / 10, by omega, by omega⟩
  have hSum : (x + y) % 100 = 10 * high + low := by omega
  have hLowCorrected : (0x0F < a % 16 + b % 16 ∨ 0x09 < (a + b) % 256 % 16) ↔ d = 1 := by omega
  have hHighCorrected : 100 ≤ x + y ↔ c = 1 := by omega
  simp only [hSum, bcd_digits_toNat hHigh hLow, hLowCorrected, hHighCorrected]
  split_ifs <;> omega

theorem bcd_sub_borrow_iff : (bcd x).toNat < (bcd y).toNat ↔ x < y := by
  obtain ⟨p, hp, q, hq, hxDigits, hxByte⟩ := exists_digits hx
  obtain ⟨r, hr, t, ht, hyDigits, hyByte⟩ := exists_digits hy
  omega

/-- R346: the corrections make the binary difference decimal. The borrow `d` of the low digits decides the low correction,
the borrow `c` of the high digits decides the high one. -/
theorem bcd_sub_corrected :
    ((((bcd x).toNat : Int) - (bcd y).toNat) % 256 - (if x < y then 0x60 else 0) -
      (if (bcd x).toNat % 16 < (bcd y).toNat % 16 then 0x06 else 0)) % 256 =
        ((bcd ((x + 100 - y) % 100)).toNat : Int) := by
  obtain ⟨p, hp, q, hq, hxDigits, hxByte⟩ := exists_digits hx
  obtain ⟨r, hr, t, ht, hyDigits, hyByte⟩ := exists_digits hy
  generalize (bcd x).toNat = a, (bcd y).toNat = b at *
  obtain ⟨low, hLow, d, hd, hLowDigit⟩ : ∃ low < 10, ∃ d < 2, q + 10 * d = t + low :=
    ⟨(q + 10 - t) % 10, by omega, 1 - (q + 10 - t) / 10, by omega, by omega⟩
  obtain ⟨high, hHigh, c, hc, hHighDigit⟩ : ∃ high < 10, ∃ c < 2, p + 10 * c = r + d + high :=
    ⟨(p + 10 - (r + d)) % 10, by omega, 1 - (p + 10 - (r + d)) / 10, by omega, by omega⟩
  have hDifference : (x + 100 - y) % 100 = 10 * high + low := by omega
  have hLowCorrected : a % 16 < b % 16 ↔ d = 1 := by omega
  have hHighCorrected : x < y ↔ c = 1 := by omega
  simp only [hDifference, bcd_digits_toNat hHigh hLow, hLowCorrected, hHighCorrected]
  split_ifs <;> omega

end

/-- Settles O22: DAA corrects what ADD or SUB leaves of two packed-BCD bytes to the packed-BCD sum or difference. -/
theorem decimalArithmetic : Obligations.DecimalArithmetic := by
  intro s x y hx hy ha
  refine ⟨⟨_, _, rfl, rfl, ?add⟩, ⟨_, _, rfl, rfl, ?sub⟩⟩
  case add =>
    obtain ⟨hA, -, hn, hh, hc⟩ := aluEffect_aluOnA .add (bcd y) s 8
    obtain ⟨hCarry, hValue⟩ := decimalAdjust_after_add hn
    rw [ha] at hA hh hc
    rw [hc, hA, ← Bool.decide_or, decide_eq_decide.mpr (bcd_add_carry_iff hx hy)] at hCarry
    rw [hCarry, hh, hA] at hValue
    simp only [decide_eq_true_eq] at hValue
    exact ⟨BitVec.eq_of_toNat_eq (hValue.trans (bcd_add_corrected hx hy)), hCarry⟩
  case sub =>
    obtain ⟨hA, -, hn, hh, hc⟩ := aluEffect_aluOnA .sub (bcd y) s 8
    obtain ⟨hBorrow, hValue⟩ := decimalAdjust_after_sub hn
    rw [ha] at hA hh hc
    rw [decide_eq_decide.mpr (bcd_sub_borrow_iff hx hy)] at hc
    rw [hc, hh, hA] at hValue
    simp only [decide_eq_true_eq] at hValue
    exact ⟨BitVec.eq_of_toNat_eq (Int.ofNat_inj.mp (hValue.trans (bcd_sub_corrected hx hy))), hBorrow.trans hc⟩

/-! ## The step that runs an instruction (R340, R530) -/

/-- The bytes at PC decode to the instruction that is fetched, and it is as long as its opcode says. -/
theorem fetchInstr_of_decode {s : State} {i : Instr} {rest : List Byte} (hb : s.cpu.haltBug = false)
    (hd : decode (bytesAtPc s) = .ok (i, rest)) :
    fetchInstr s = i ∧ (encode i).length = opcodeLength (memRead s s.cpu.pc) := by
  obtain ⟨op, tail, hBytes, -, rfl, -⟩ := decode_eq_ok hd
  obtain ⟨rfl, rfl⟩ := List.cons.inj hBytes
  refine ⟨?_, length_encode_decodeBytes ..⟩
  unfold fetchInstr
  rw [fetchBytes_plain hb]
  rfl

/-- Settles O29: the state in which the bytes are fetched has the PC and the bytes of the state before the step. -/
theorem stepRunsInstruction : Obligations.StepRunsInstruction := by
  intro s i rest hInt hl hh hb hd
  change (readyState s).cpu.haltBug = false at hb
  obtain ⟨hFetch, hLength⟩ := fetchInstr_of_decode (by rwa [readyState_fields] at hb) hd
  obtain ⟨t, ht⟩ := exec_next i ((readyState s).setPc (s.cpu.pc + BitVec.ofNat 16 (encode i).length))
  have hPc : (readyState s).cpu.pc = s.cpu.pc := by rw [readyState_fields]
  refine ⟨t, ht, ?_⟩
  rw [step_runs hInt hl hh, advancePc_plain hb, memRead_readyState, hPc, fetchInstr_readyState, hFetch, ← hLength, ht]
  rfl

/-! ## EI and the step after it (R345, R581) -/

theorem readyState_of_not_halted {s : State} (h : s.cpu.halted = false) :
    readyState s = s.setCpu { s.cpu with ime := s.cpu.ime || s.cpu.imeScheduled, imeScheduled := false } := by
  have hRelease : releaseHalt s = s := by
    unfold releaseHalt
    rw [h, Bool.and_false, Bool.false_and, if_neg Bool.false_ne_true]
  rw [readyState_cpu, readyState_fields, hRelease]

/-- R525: no interrupt is taken without `ime`. -/
theorem interruptTaken_of_ime {s : State} (h : s.cpu.ime = false) : interruptTaken s = false := by
  unfold interruptTaken
  rw [h, Bool.and_false, Bool.false_and]

/-- R340, R530: a step with `ime` clear runs an instruction, with `ime` true if an enable was scheduled. -/
theorem step_of_ime_clear {s : State} (hIme : s.cpu.ime = false) (hLocked : s.cpu.locked = false)
    (hHalted : s.cpu.halted = false) :
    ∃ u, exec (fetchInstr s) (advancePc (s.setCpu { s.cpu with ime := s.cpu.imeScheduled, imeScheduled := false })) =
      .next u ∧ step s = .next (catchUp u) := by
  have hReady := readyState_of_not_halted hHalted
  rw [hIme, Bool.false_or] at hReady
  obtain ⟨u, hu⟩ := exec_next (fetchInstr s) (advancePc (readyState s))
  refine ⟨u, hReady ▸ hu, ?_⟩
  rw [step_runs (interruptTaken_of_ime hIme) (by rwa [hReady]) (by rwa [hReady]), fetchInstr_readyState, hu]
  rfl

/-- R345: the byte 0xFB is EI, whatever bytes follow. -/
theorem fetchInstr_ei {s : State} (hb : s.cpu.haltBug = false) (hOp : memRead s s.cpu.pc = 0xFB#8) :
    fetchInstr s = .ei := by
  unfold fetchInstr
  rw [fetchBytes_plain hb, hOp]
  rfl

/-- Settles O32: EI leaves `ime` clear and an enable scheduled, and the next step tests for an interrupt before it lets
the enable take effect. -/
theorem eiDelay : Obligations.EiDelay := by
  intro s t hIme hScheduled hLocked hHalted hBug hOp hStep
  obtain ⟨u, hu, hNext⟩ := step_of_ime_clear hIme hLocked hHalted
  rw [fetchInstr_ei hBug hOp] at hu
  cases hu
  cases hStep.symm.trans hNext
  have hCpu := tickDevices_cpu (scheduleEnable (advancePc
    (s.setCpu { s.cpu with ime := s.cpu.imeScheduled, imeScheduled := false })))
  have hIme' := (congrArg Cpu.ime hCpu).trans hScheduled
  obtain ⟨v, hv, hNext'⟩ := step_of_ime_clear hIme' ((congrArg Cpu.locked hCpu).trans hLocked)
    ((congrArg Cpu.halted hCpu).trans hHalted)
  rw [congrArg Cpu.imeScheduled hCpu] at hv
  exact ⟨hIme', interruptTaken_of_ime hIme', v, hv, hNext'⟩

end Sys2Proof.Machine
end

section
/-! PROOFS. The statements about the CB page (49_cb_prefix.md). A form that changes its operand writes what its rule makes
of it, and BIT writes the flags only. -/

namespace Sys2Proof.Machine

/-! ## Encodings (R147) -/

theorem encode_rot (op : RotOp) (r : Operand8) :
    encode (Instr.rot op r) = [0xCB, opByte 0 (rotCode op) (operandCode r)] := by
  cases op <;> cases r <;> rfl

theorem encode_bit (b : Index8) (r : Operand8) :
    encode (Instr.bit b r) = [0xCB, opByte 1 (indexNat b) (operandCode r)] := by
  cases b <;> cases r <;> rfl

theorem encode_res (b : Index8) (r : Operand8) :
    encode (Instr.res b r) = [0xCB, opByte 2 (indexNat b) (operandCode r)] := by
  cases b <;> cases r <;> rfl

theorem encode_set (b : Index8) (r : Operand8) :
    encode (Instr.set b r) = [0xCB, opByte 3 (indexNat b) (operandCode r)] := by
  cases b <;> cases r <;> rfl

/-! ## One bit of a byte (R370, R371) -/

theorem indexNat_lt (b : Index8) : indexNat b < 8 := by cases b <;> decide

theorem getLsbD_clearBit (v : Byte) (i k : Nat) :
    (v &&& ~~~(1#8 <<< i)).getLsbD k = if k = i then false else v.getLsbD k := by
  rw [BitVec.getLsbD_and, BitVec.getLsbD_not, ← BitVec.twoPow_eq, BitVec.getLsbD_twoPow]
  by_cases hk : k < 8
  · by_cases h : k = i <;> simp [hk, h, eq_comm (a := i)]
  · rw [BitVec.getLsbD_of_ge v k (by omega), Bool.false_and, ite_self]

theorem getLsbD_setBit (v : Byte) {i : Nat} (hi : i < 8) (k : Nat) :
    (v ||| (1#8 <<< i)).getLsbD k = if k = i then true else v.getLsbD k := by
  rw [BitVec.getLsbD_or, ← BitVec.twoPow_eq, BitVec.getLsbD_twoPow]
  by_cases h : k = i <;> simp [hi, h, eq_comm (a := i)]

/-- R370, R371: a read-modify-write form that writes its operand only. -/
theorem operandBecomes_setOperand8 (r : Operand8) (w : Byte) (s : State) (k : Nat) :
    OperandBecomes r w [] s ((setOperand8 r w s).withCycles k) := by
  unfold OperandBecomes
  split_ifs with hr
  · subst hr
    exact ⟨stores_memWrite s s.hl w k, keeps_memWrite [] s s.hl w k, sameControl_memWrite s s.hl w k⟩
  · exact ⟨operand8_setOperand8 hr w s k, regOnly_setOperand8 hr w s k⟩

/-! ## The statements -/

/-- Settles O23: each form writes its operand, and the flags of the byte written. -/
theorem cbRotates : Obligations.CbRotates := by
  intro s op r
  have hf : (rotOperand op r s).cpu.f = packFlags (rotValue op (operand8 r s) s.fc == 0) false false
    (rotCarry op (operand8 r s)) := rfl
  refine ⟨encode_rot op r, _, _, exec_rot op r s, ?_, (State.fz_of_packFlags hf).trans (beq_eq_decide ..),
    State.fn_of_packFlags hf, State.fh_of_packFlags hf, flagsClean_packFlags hf, operandBecomes_setFlags .., rfl⟩
  rw [State.fc_of_packFlags hf]
  exact rotEffect_rotValue (operand8 r s) s.fc op

/-- Settles O24: BIT is a write of the flags, RES and SET are writes of the operand. -/
theorem cbBits : Obligations.CbBits := by
  intro s b r
  exact ⟨⟨encode_bit b r, exec_effect_of_setFlags (exec_bit b r s)⟩,
    ⟨encode_res b r, _, _, exec_res b r s, getLsbD_clearBit _ _, operandBecomes_setOperand8 .., rfl⟩,
    encode_set b r, _, _, exec_set b r s, getLsbD_setBit _ (indexNat_lt b), operandBecomes_setOperand8 .., rfl⟩

end Sys2Proof.Machine
end

section
/-! PROOFS. The statements about interrupts, HALT and runs (60_exceptions.md). -/

namespace Sys2Proof.Machine

/-! ## Runs (R520) -/

/-- R520, R530: every step answers a next state. -/
theorem step_next (s : State) : ∃ t, step s = .next t := by
  obtain ⟨-, e⟩ | ⟨-, e⟩ | ⟨-, t, -, e⟩ := step_cases s
  all_goals exact ⟨_, e⟩

theorem run_succ_of_step {s t : State} (h : step s = .next t) (n : Nat) :
    Sys2Proof.core.run (n + 1) s = Sys2Proof.core.run n t := by
  have hStep : Sys2Proof.core.step s = .next t := h
  simp only [Host.Core.run, hStep]

/-- Settles O33, by induction on the length of the run. -/
theorem noRunStops : Obligations.NoRunStops := by
  intro s n
  induction n generalizing s with
  | zero => exact ⟨s, rfl⟩
  | succ n ih =>
    obtain ⟨t, ht⟩ := step_next s
    obtain ⟨u, hu⟩ := ih t
    exact ⟨u, (run_succ_of_step ht n).trans hu⟩

/-! ## HALT (R530, R533) -/

section

variable {s : State}

theorem interruptTaken_of_pending (h : pending s = 0#8) : interruptTaken s = false := by
  simp [interruptTaken, h]

theorem releaseHalt_of_pending (h : pending s = 0#8) : releaseHalt s = s := by
  simp [releaseHalt, h]

/-- R533: a pending request releases HALT when `ime` is clear. -/
theorem releaseHalt_of_ime (h : pending s ≠ 0#8) (hLocked : s.cpu.locked = false) (hIme : s.cpu.ime = false)
    (hHalted : s.cpu.halted = true) : releaseHalt s = s.setCpu { s.cpu with halted := false } := by
  simp [releaseHalt, h, hLocked, hIme, hHalted]

theorem releaseHalt_of_not_halted (h : s.cpu.halted = false) : releaseHalt s = s := by
  simp [releaseHalt, h]

/-- R526, R530: without `ime` no interrupt is taken. -/
theorem step_of_ime (h : s.cpu.ime = false) : step s = finishStep (cpuStep (releaseHalt s)) := by
  rw [step, cpuPhase, interruptTaken_of_ime h, if_neg Bool.false_ne_true]

theorem promoteIme_of_not_scheduled (h : s.cpu.imeScheduled = false) : promoteIme s = s := by
  simp [promoteIme, h]

end

/-- Settles O31: with nothing pending no interrupt is taken and HALT is not released; with a request pending and `ime`
clear both states run the CPU's part from the released state. -/
theorem haltedStep : Obligations.HaltedStep := by
  intro s hHalted hLocked hScheduled
  refine ⟨fun hNone => ?idle, fun hSome hIme => ?released⟩
  case idle =>
    have hReady : readyState s = s := by
      rw [readyState, releaseHalt_of_pending hNone, promoteIme_of_not_scheduled hScheduled]
    have hStep := step_idle (interruptTaken_of_pending hNone) (.inr (hReady.symm ▸ hHalted))
    rw [hReady] at hStep
    exact ⟨_, hStep, tickDevices_cpu (s.withCycles 4), rfl⟩
  case released =>
    rw [step_of_ime hIme, releaseHalt_of_ime hSome hLocked hIme hHalted]
    have hRight := step_of_ime (s := s.setCpu { s.cpu with halted := false }) hIme
    rw [hRight, releaseHalt_of_not_halted rfl]

/-! ## Taking an interrupt (R521 to R526) -/

theorem vectorOf_toNat {k : Nat} (h : k < 5) : (vectorOf k).toNat = 0x40 + 8 * k := by
  interval_cases k <;> rfl

/-- R521, R523: the lowest request of a pending set. -/
theorem lowestPending_spec (p : Byte) (h : p &&& 0x1F#8 ≠ 0#8) :
    lowestPending (p &&& 0x1F#8) < 5 ∧ p.getLsbD (lowestPending (p &&& 0x1F#8)) = true ∧
      ∀ j, j < lowestPending (p &&& 0x1F#8) → p.getLsbD j = false := by
  revert p
  decide

/-- What a dispatch leaves, and where. -/
theorem takeInterrupt_frame (k : Nat) (s : State) :
    Keeps [.sp, .pc] s (takeInterrupt k s) ∧
      SameDevices (storeAll [(s.cpu.sp - 1, hiByte s.cpu.pc), (s.cpu.sp - 2, loByte s.cpu.pc)]
        (s.setIo Io.intFlag (s.io Io.intFlag &&& ~~~(1#8 <<< k)))) (takeInterrupt k s) := by
  rw [takeInterrupt_eq]
  refine ⟨fun r hr => ?_, ?_⟩
  · cases r with
    | sp | pc => simp at hr
    | _ => rfl
  · rw [push16_eq', memWrite_setCpu, memWrite_setCpu]
    exact ⟨rfl, rfl, rfl, rfl, rfl, rfl⟩

/-- Settles O30: the step is the dispatch of the lowest pending request. -/
theorem stepDispatches : Obligations.StepDispatches := by
  intro s hLocked hIme hPending
  obtain ⟨hk, hSet, hLowest⟩ := lowestPending_spec _ hPending
  have hTaken : interruptTaken s = true := by
    simp only [interruptTaken, hLocked, hIme, pending, bne_iff_ne, Bool.not_false, Bool.and_true, Bool.true_and]
    exact hPending
  obtain ⟨hKeeps, hDevices⟩ := takeInterrupt_frame (lowestPending (pending s)) s
  refine ⟨lowestPending (pending s), _, hk, hSet, hLowest, step_interrupt hTaken, ?_⟩
  refine ⟨rfl, vectorOf_toNat hk, ?_, rfl, ?_, ?_, hKeeps, hDevices⟩ <;> rw [dispatch, takeInterrupt_eq] <;> rfl

end Sys2Proof.Machine
end

section
/-! PROOFS. The statements about reset and loading (70_reset_and_hazards.md): the state that `init` leaves, what `reset`
keeps, and the cartridge that a load makes of a file. -/

namespace Sys2Proof.Machine

/-! ## The reset state (R570) -/

theorem devicesOk_reset : DevicesOk State.reset where
  memory := memoryOk_reset
  output := ⟨cellsOk_nil, cellsOk_nil, by decide⟩
  romBank := trivial
  statTop := rfl
  channels := by unfold ChannelsOk; decide
  clocks := by unfold ClocksOk; decide

/-- Settles O35: the two parts of the invariant, that of the CPU by its values. -/
theorem resetInv : Obligations.ResetInv :=
  (inv_iff_cpuOk _).mpr ⟨⟨rfl, rfl, rfl⟩, devicesOk_reset⟩

/-- The three IO bytes that `init` sets. -/
theorem reset_io (k : Nat) : State.reset.io k =
    if k = 0x40 then 0x91#8 else if k = 0x41 then 0x85#8 else if k = 0x47 then 0xFC#8 else 0#8 := by
  show Cells.read [(0x40, 0x91#8), (0x41, 0x85#8), (0x47, 0xFC#8)] k = _
  simp only [Cells.read, Cells.unlisted, eq_comm (b := k)]

/-- Settles O59: the IO bytes as listed, every other field by its value. -/
theorem resetValues : Obligations.ResetValues :=
  ⟨rfl, rfl, rfl, rfl, rfl, rfl, rfl, reset_io, rfl, rfl⟩

/-! ## The header of a file (R118, R119) -/

section

variable {t : Byte}

theorem mapperOfType_mbc1 (h : t.toNat ∈ [1, 2, 3]) : mapperOfType t = .mbc1 := by
  simp only [List.mem_cons, List.not_mem_nil, or_false] at h
  exact if_pos (by omega)

theorem mapperOfType_mbc3 (h : t.toNat ∈ [15, 16, 17, 18, 19]) : mapperOfType t = .mbc3 := by
  simp only [List.mem_cons, List.not_mem_nil, or_false] at h
  unfold mapperOfType
  dsimp only
  rw [if_neg (by omega), if_pos (by omega)]

theorem mapperOfType_mbc5 (h : t.toNat ∈ [25, 26, 27, 28, 29, 30]) : mapperOfType t = .mbc5 := by
  simp only [List.mem_cons, List.not_mem_nil, or_false] at h
  unfold mapperOfType
  dsimp only
  rw [if_neg (by omega), if_neg (by omega), if_pos (by omega)]

theorem mapperOfType_none (h1 : t.toNat ∉ [1, 2, 3]) (h3 : t.toNat ∉ [15, 16, 17, 18, 19])
    (h5 : t.toNat ∉ [25, 26, 27, 28, 29, 30]) : mapperOfType t = .none := by
  simp only [List.mem_cons, List.not_mem_nil, or_false] at h1 h3 h5
  unfold mapperOfType
  dsimp only
  rw [if_neg (by omega), if_neg (by omega), if_neg (by omega)]

end

theorem ramSizeOfByte_eq (t : Byte) :
    ramSizeOfByte t = [0, 2048, 8192, 32768, 131072, 65536].getD t.toNat 0 := by
  revert t
  decide

/-! ## The title (R573) -/

section

variable {α : Type} (p : α → Bool) (f : Nat → α) (n : Nat)

/-- The longest initial part of `f 0`, …, `f (n - 1)` whose elements satisfy `p`: how long it is, what it holds, and where it
ends. -/
theorem takeWhile_map_range_spec (d : α) {l : List α} (hl : ((List.range n).map f).takeWhile p = l) :
    l.length ≤ n ∧ (∀ i, i < l.length → l.getD i d = f i ∧ p (f i) = true) ∧
      (l.length < n → p (f l.length) = false) := by
  subst hl
  have hPrefix := List.takeWhile_prefix p (l := (List.range n).map f)
  refine ⟨by simpa using hPrefix.length_le, fun i hi => ?_, fun hlt => ?_⟩
  · have hi' : (((List.range n).map f).takeWhile p)[i] = f i := by simp [hPrefix.getElem hi]
    rw [List.getD_eq_getElem _ d hi, hi']
    exact ⟨rfl, hi' ▸ List.mem_takeWhile_imp (List.getElem_mem hi)⟩
  · rw [List.takeWhile_eq_take_findIdx_not, List.length_take, Nat.min_eq_left List.findIdx_le_length] at hlt ⊢
    have hEnd := List.findIdx_getElem (p := fun a => !p a) (xs := (List.range n).map f) (w := by simpa using hlt)
    simpa using hEnd

end

/-- R573: the bytes that may stand in a title. -/
theorem printable_iff (b : Byte) : printable b = true ↔ 0x20 ≤ b.toNat ∧ b.toNat ≤ 0x7E := by
  simp [printable]

/-- Settles O60: `reset` by its definition, a load by the size of the file, and the cartridge it leaves field by field. -/
theorem hostLoads : Obligations.HostLoads := by
  intro s file
  refine ⟨⟨_, rfl, rfl, rfl⟩, rfl, fun h => if_pos h, fun h => ⟨_, if_neg (Nat.not_lt.mpr h), rfl, rfl, fun k => ?rom,
    fun _ => rfl, ⟨mapperOfType_mbc1, mapperOfType_mbc3, mapperOfType_mbc5, mapperOfType_none⟩, ramSizeOfByte_eq _,
    rfl, rfl, rfl, rfl, ?title⟩⟩
  case rom => exact (Cells.read_ofList 0 file k).trans (if_pos (Nat.zero_le k))
  case title =>
    obtain ⟨hLength, hShown, hEnd⟩ := takeWhile_map_range_spec printable _ 16 0 (rfl : _ = titleOf file)
    refine ⟨hLength, fun i hi => (hShown i hi).imp_right (printable_iff _).mp, fun hlt h => ?_⟩
    exact Bool.false_ne_true ((hEnd hlt).symm.trans ((printable_iff _).mpr h))

end Sys2Proof.Machine
end

section
/-! PROOFS. The statements about the timer and the joypad (60_exceptions.md): DIV and TIMA after a tick of any number of
cycles, the register JOYP, and the press of a button. -/

namespace Sys2Proof.Machine

/-! ## The timer (R544 to R546) -/

section

variable {s : State}

/-- R546: TIMA wraps: it is reloaded from TMA, and interrupt 2 is requested. -/
theorem timaIncrement_wrap (h : s.io Io.tima = 0xFF#8) :
    timaIncrement s = (s.setIo Io.tima (s.io Io.tma)).setIo Io.intFlag (s.io Io.intFlag ||| 0x04#8) := by
  rw [timaIncrement, if_pos h, request, State.io_setIo, if_neg (by decide)]
  rfl

theorem timaIncrement_no_wrap (h : s.io Io.tima ≠ 0xFF#8) :
    timaIncrement s = s.setIo Io.tima (s.io Io.tima + 1) := if_neg h

/-- An increment of TIMA changes TIMA and IF only. -/
theorem io_timaIncrement {j : Nat} (h1 : j ≠ Io.tima) (h2 : j ≠ Io.intFlag) (s : State) :
    (timaIncrement s).io j = s.io j := by
  by_cases h : s.io Io.tima = 0xFF#8
  · rw [timaIncrement_wrap h, State.io_setIo, if_neg h2, State.io_setIo, if_neg h1]
  · rw [timaIncrement_no_wrap h, State.io_setIo, if_neg h1]

theorem io_timaIncrements {j : Nat} (h1 : j ≠ Io.tima) (h2 : j ≠ Io.intFlag) (k : Nat) (s : State) :
    (applyTimes timaIncrement k s).io j = s.io j :=
  applyTimes_induct (P := fun t => t.io j = s.io j) (fun x hx => (io_timaIncrement h1 h2 x).trans hx) k rfl

/-- A second time round the values from `m` to 255. -/
theorem mod_round_from {m k : Nat} (hm : m < 256) (hk : 256 ≤ m + k) : (m + k - 256) % (256 - m) = k % (256 - m) := by
  have hRound : m + k - 256 = k - (256 - m) := by omega
  rw [hRound, ← Nat.mod_eq_sub_mod (by omega)]

/-- What `k` increments make of TIMA and of IF: below the wrap TIMA rises; from the first wrap on it goes round the values
TMA to 0xFF. -/
theorem timaIncrements_io (k : Nat) (s : State) :
    ((s.io Io.tima).toNat + k < 256 →
      ((applyTimes timaIncrement k s).io Io.tima).toNat = (s.io Io.tima).toNat + k ∧
        (applyTimes timaIncrement k s).io Io.intFlag = s.io Io.intFlag) ∧
    (256 ≤ (s.io Io.tima).toNat + k →
      ((applyTimes timaIncrement k s).io Io.tima).toNat =
          (s.io Io.tma).toNat + ((s.io Io.tima).toNat + k - 256) % (256 - (s.io Io.tma).toNat) ∧
        (applyTimes timaIncrement k s).io Io.intFlag = s.io Io.intFlag ||| 0x04#8) := by
  induction k generalizing s with
  | zero =>
    have hTima := (s.io Io.tima).isLt
    exact ⟨fun _ => ⟨rfl, rfl⟩, fun h => absurd h (by omega)⟩
  | succ k ih =>
    have hTma : (timaIncrement s).io Io.tma = s.io Io.tma := io_timaIncrement (by decide) (by decide) s
    obtain ⟨ihRise, ihWrap⟩ := ih (timaIncrement s)
    rw [hTma] at ihWrap
    rw [applyTimes]
    by_cases h : s.io Io.tima = 0xFF#8
    · have hTima : (timaIncrement s).io Io.tima = s.io Io.tma := by simp [timaIncrement_wrap h]
      have hIf : (timaIncrement s).io Io.intFlag = s.io Io.intFlag ||| 0x04#8 := by simp [timaIncrement_wrap h]
      have hOld : (s.io Io.tima).toNat = 255 := by rw [h]; rfl
      have hLt := (s.io Io.tma).isLt
      rw [hTima, hIf] at ihRise ihWrap
      refine ⟨fun hk => by omega, fun _ => ?_⟩
      have hPast : (s.io Io.tima).toNat + (k + 1) - 256 = k := by omega
      rw [hPast]
      by_cases hk : (s.io Io.tma).toNat + k < 256
      · rw [Nat.mod_eq_of_lt (by omega : k < 256 - (s.io Io.tma).toNat)]
        exact ihRise hk
      · rw [mod_round_from hLt (by omega), BitVec.or_assoc, BitVec.or_self] at ihWrap
        exact ihWrap (by omega)
    · have hTima : ((timaIncrement s).io Io.tima).toNat = (s.io Io.tima).toNat + 1 := by
        rw [timaIncrement_no_wrap h, State.io_setIo_self]
        bv_omega
      have hIf : (timaIncrement s).io Io.intFlag = s.io Io.intFlag := by simp [timaIncrement_no_wrap h]
      rw [hTima, hIf, Nat.add_right_comm, Nat.add_assoc] at ihRise ihWrap
      exact ⟨ihRise, ihWrap⟩

end

theorem io_divTick {j : Nat} (h : j ≠ Io.div) (n : Nat) (s : State) : (divTick n s).io j = s.io j :=
  (State.io_setIo ..).trans (if_neg h)

theorem timerEnabled_divTick (n : Nat) (s : State) : timerEnabled (divTick n s) = timerEnabled s := by
  rw [timerEnabled, timerEnabled, io_divTick (by decide)]

/-- The increments of TIMA in a tick, and the IO bytes that they start from. -/
theorem timerTick_of_enabled {s : State} (h : timerEnabled s = true) (n : Nat) :
    ∃ u, timerTick n s = applyTimes timaIncrement ((s.timer.timaCycles + n) / timerPeriod (s.io Io.tac)) u ∧
      ∀ j, j ≠ Io.div → u.io j = s.io j := by
  unfold timerTick timaTick
  dsimp only
  rw [timerEnabled_divTick, if_pos h, io_divTick (by decide)]
  exact ⟨_, rfl, fun j hj => io_divTick hj n s⟩

theorem timerTick_of_disabled {s : State} (h : timerEnabled s = false) (n : Nat) : timerTick n s = divTick n s := by
  rw [timerTick, timaTick, timerEnabled_divTick, h, if_neg Bool.false_ne_true]

theorem timerPeriod_eq (tac : Byte) : timerPeriod tac = [1024, 16, 64, 256].getD (tac.toNat % 4) 0 := by
  revert tac
  decide

/-- A timer tick keeps everything but DIV, TIMA, IF and the accumulators. -/
theorem TimerFrame.eq {s t : State} (h : TimerFrame s t) :
    t = { s with timer := t.timer, mem := { s.mem with io := t.mem.io } } := by
  obtain ⟨cpu, mem, cart, ppu, apu, timer, joypad, cycles⟩ := t
  obtain ⟨hCpu, hCart, hPpu, hApu, hJoypad, hCycles, hMem, -⟩ := h
  simp only at hCpu hCart hPpu hApu hJoypad hCycles hMem ⊢
  rw [hCpu, hCart, hPpu, hApu, hJoypad, hCycles, ← hMem]

theorem divTick_div (n : Nat) (s : State) :
    ((divTick n s).io Io.div).toNat = ((s.io Io.div).toNat + (s.timer.divCycles + n) / 256) % 256 := by
  show ((s.setIo Io.div (s.io Io.div + BitVec.ofNat 8 ((s.timer.divCycles + n) / 256))).io Io.div).toNat = _
  rw [State.io_setIo_self, BitVec.toNat_add, BitVec.toNat_ofNat, Nat.add_mod_mod]

/-- R545: DIV does not depend on TAC. -/
theorem timerTick_div (n : Nat) (s : State) : (timerTick n s).io Io.div = (divTick n s).io Io.div := by
  unfold timerTick timaTick
  dsimp only
  split
  · exact io_timaIncrements (by decide) (by decide) _ _
  · rfl

/-- Settles O44: DIV is the quotient and its accumulator the remainder of one count of cycles. -/
theorem divCounts : Obligations.DivCounts := by
  intro s n
  have hFrame := timerTick_frame n s
  have hDiv := divTick_div n s
  obtain ⟨hAcc, -⟩ := timerTick_timer n s
  refine ⟨_, rfl, ?_, ?_, hFrame.io, hFrame.eq⟩
  · rw [hAcc]
    exact Nat.mod_lt _ (by decide)
  · rw [timerTick_div, hDiv, hAcc]
    omega

/-- Settles O45: the increments of TIMA in a tick are as many as whole periods in the accumulator. -/
theorem timaCounts : Obligations.TimaCounts := by
  intro s n
  obtain ⟨-, hAcc⟩ := timerTick_timer n s
  refine ⟨_, rfl, fun hOff => ?off, fun hOn => ?on, timerPeriod_eq _⟩
  case off =>
    rw [hAcc, timerEnabled, hOff, timerTick_of_disabled hOff]
    exact ⟨io_divTick (by decide) n s, rfl, io_divTick (by decide) n s⟩
  case on =>
    rw [timerEnabled, if_pos hOn] at hAcc
    obtain ⟨u, hTick, hu⟩ := timerTick_of_enabled hOn n
    have hIncrements := timaIncrements_io ((s.timer.timaCycles + n) / timerPeriod (s.io Io.tac)) u
    rw [← hTick, hu Io.tima (by decide), hu Io.tma (by decide), hu Io.intFlag (by decide)] at hIncrements
    exact ⟨hAcc, hIncrements⟩

/-! ## JOYP (R552) -/

theorem lines_bits (b0 b1 b2 b3 : Bool) :
    (lines b0 b1 b2 b3)[0] = b0 ∧ (lines b0 b1 b2 b3)[1] = b1 ∧ (lines b0 b1 b2 b3)[2] = b2 ∧
      (lines b0 b1 b2 b3)[3] = b3 := by
  revert b0 b1 b2 b3
  decide

/-- R552: JOYP bit by bit. -/
theorem Joypad.read_bits (j : Joypad) :
    j.read.getLsbD 7 = true ∧ j.read.getLsbD 6 = true ∧ j.read.getLsbD 5 = !j.selectButtons ∧
      j.read.getLsbD 4 = !j.selectDpad ∧
      j.read.getLsbD 0 = !(j.selectButtons && j.a || j.selectDpad && j.right) ∧
      j.read.getLsbD 1 = !(j.selectButtons && j.b || j.selectDpad && j.left) ∧
      j.read.getLsbD 2 = !(j.selectButtons && j.select || j.selectDpad && j.up) ∧
      j.read.getLsbD 3 = !(j.selectButtons && j.start || j.selectDpad && j.down) := by
  unfold Joypad.read
  cases j.selectButtons <;> cases j.selectDpad <;> simp [lines_bits]

/-- Settles O40: the row of JOYP in the address map leads to the joypad. -/
theorem joypadPort : Obligations.JoypadPort :=
  fun s _ => ⟨s.joypad.read_bits, rfl⟩

/-! ## The buttons (R551, R553) -/

theorem Joypad.pressed_setPressed (j : Joypad) (p : Bool) (k i : Button) :
    (j.setPressed p k).pressed i = if i = k then p else j.pressed i := by
  cases k <;> cases i <;> rfl

theorem Joypad.setPressed_latches (j : Joypad) (p : Bool) (k : Button) :
    (j.setPressed p k).selectButtons = j.selectButtons ∧ (j.setPressed p k).selectDpad = j.selectDpad := by
  cases k <;> exact ⟨rfl, rfl⟩

/-- Settles O41: the latch is set, and then interrupt 4 is requested or not. -/
theorem buttonPress : Obligations.ButtonPress := by
  intro s k p
  obtain ⟨hButtons, hDpad⟩ := s.joypad.setPressed_latches p k
  refine ⟨_, rfl, ?_⟩
  unfold setButton
  dsimp only
  split_ifs
  · refine ⟨s.joypad.pressed_setPressed p k, State.io_setIo_self .., fun n hn => ?_, hButtons, hDpad, rfl⟩
    exact (State.io_setIo ..).trans (if_neg hn)
  · exact ⟨s.joypad.pressed_setPressed p k, rfl, fun n _ => rfl, hButtons, hDpad, rfl⟩

end Sys2Proof.Machine
end

section
/-! PROOFS. The statement about the signals of the PPU (50_ppu.md): what a mode entry, the LYC compare and a tick with the
LCD off change, and that they change nothing else. -/

namespace Sys2Proof.Machine

/-! ## STAT as a byte (R48) -/

theorem getLsbD_putMode (v : Byte) (m : BitVec 2) {k : Nat} (hk : 2 ≤ k) :
    ((v &&& 0xFC#8) ||| m.zeroExtend 8).getLsbD k = v.getLsbD k := by
  by_cases h : k < 8
  · interval_cases k <;> simp
  · rw [BitVec.getLsbD_of_ge _ _ (by omega), BitVec.getLsbD_of_ge _ _ (by omega)]

theorem mode_putMode (v : Byte) (m : BitVec 2) : ((v &&& 0xFC#8) ||| m.zeroExtend 8).extractLsb' 0 2 = m := by
  ext i hi
  interval_cases i <;> simp

theorem getLsbD_setBit2 (v : Byte) (k : Nat) : (v ||| 0x04#8).getLsbD k = if k = 2 then true else v.getLsbD k :=
  getLsbD_setBit v (i := 2) (by decide) k

theorem getLsbD_clearBit2 (v : Byte) (k : Nat) : (v &&& 0xFB#8).getLsbD k = if k = 2 then false else v.getLsbD k := by
  have hMask : 0xFB#8 = ~~~(1#8 <<< 2) := by decide
  rw [hMask, getLsbD_clearBit]

/-- The bit of the LYC compare is none of the mode's. -/
theorem mode_of_bits {v w : Byte} (h : ∀ k, k ≠ 2 → v.getLsbD k = w.getLsbD k) :
    v.extractLsb' 0 2 = w.extractLsb' 0 2 := by
  ext i hi
  simpa using h i (by omega)

theorem statSource_iff (v : Byte) (m : BitVec 2) : statSource v m = true ↔
    m = 0 ∧ v.getLsbD 3 = true ∨ m = 1 ∧ v.getLsbD 4 = true ∨ m = 2 ∧ v.getLsbD 5 = true := by
  simp only [statSource, bitOf, Bool.or_eq_true, Bool.and_eq_true, beq_iff_eq, or_assoc]

/-! ## Changes of IO bytes only -/

/-- Only STAT and IF may differ. -/
structure SignalFrame (s t : State) : Prop where
  io : ∀ k, k ≠ Io.stat → k ≠ Io.intFlag → t.io k = s.io k
  eq : t = { s with mem := { s.mem with io := t.mem.io } }

section

variable {s t : State}

theorem SignalFrame.ppu (h : SignalFrame s t) : t.ppu = s.ppu := by rw [h.eq]

theorem SignalFrame.lcdc (h : SignalFrame s t) (i : Nat) : t.lcdc i = s.lcdc i := by
  rw [State.lcdc, State.lcdc, h.io Io.lcdc (by decide) (by decide)]

theorem SignalFrame.ly (h : SignalFrame s t) : t.io Io.ly = s.io Io.ly := h.io Io.ly (by decide) (by decide)

theorem signalFrame_setStat (s : State) (v : Byte) : SignalFrame s (s.setIo Io.stat v) :=
  ⟨fun _ h _ => (State.io_setIo ..).trans (if_neg h), rfl⟩

theorem SignalFrame.request (h : SignalFrame s t) (i : Nat) : SignalFrame s (request i t) := by
  refine ⟨fun k h1 h2 => (State.io_setIo ..).trans ((if_neg h2).trans (h.io k h1 h2)), ?_⟩
  rw [Machine.request, State.setIo, h.eq]

end

/-! ## A mode entry (R404) -/

section

variable (m : BitVec 2) (s : State)

theorem signalFrame_setMode : SignalFrame s (setMode m s) := by
  have h : SignalFrame s (putMode m s) := signalFrame_setStat s _
  unfold setMode
  split
  · exact h.request 1
  · exact h

theorem setMode_stat : (setMode m s).io Io.stat = (s.io Io.stat &&& 0xFC#8) ||| m.zeroExtend 8 := by
  have h : (putMode m s).io Io.stat = (s.io Io.stat &&& 0xFC#8) ||| m.zeroExtend 8 := State.io_setIo_self ..
  unfold setMode
  split
  · exact ((State.io_setIo ..).trans (if_neg (by decide))).trans h
  · exact h

@[simp] theorem setMode_ppuMode : (setMode m s).ppuMode = m := by
  rw [State.ppuMode, setMode_stat, mode_putMode]

theorem setMode_intFlag : (setMode m s).io Io.intFlag =
    if statSource (s.io Io.stat) m = true then s.io Io.intFlag ||| 0x02#8 else s.io Io.intFlag := by
  have h : (putMode m s).io Io.intFlag = s.io Io.intFlag := (State.io_setIo ..).trans (if_neg (by decide))
  unfold setMode
  split
  · rw [request, State.io_setIo_self, h]
    rfl
  · exact h

@[simp] theorem setMode_ppu : (setMode m s).ppu = s.ppu := (signalFrame_setMode m s).ppu
@[simp] theorem setMode_lcdc (i : Nat) : (setMode m s).lcdc i = s.lcdc i := (signalFrame_setMode m s).lcdc i
@[simp] theorem setMode_ly : (setMode m s).io Io.ly = s.io Io.ly := (signalFrame_setMode m s).ly

end

/-! ## The LYC compare (R407) -/

section

variable (s : State)

theorem signalFrame_lycCompare : SignalFrame s (lycCompare s) := by
  unfold lycCompare
  dsimp only
  split_ifs
  · exact (signalFrame_setStat s _).request 1
  · exact signalFrame_setStat s _
  · exact signalFrame_setStat s _

theorem lycCompare_stat : (lycCompare s).io Io.stat =
    if s.io Io.ly = s.io Io.lyc then s.io Io.stat ||| 0x04#8 else s.io Io.stat &&& 0xFB#8 := by
  unfold lycCompare
  dsimp only
  split_ifs
  · exact ((State.io_setIo ..).trans (if_neg (by decide))).trans (State.io_setIo_self ..)
  · exact State.io_setIo_self ..
  · exact State.io_setIo_self ..

theorem lycCompare_stat_bit (k : Nat) : ((lycCompare s).io Io.stat).getLsbD k =
    if k = 2 then decide (s.io Io.ly = s.io Io.lyc) else (s.io Io.stat).getLsbD k := by
  rw [lycCompare_stat]
  split_ifs with hEq hk hk
  · rw [getLsbD_setBit2, if_pos hk, decide_eq_true hEq]
  · rw [getLsbD_setBit2, if_neg hk]
  · rw [getLsbD_clearBit2, if_pos hk, decide_eq_false hEq]
  · rw [getLsbD_clearBit2, if_neg hk]

theorem lycCompare_intFlag : (lycCompare s).io Io.intFlag =
    if s.io Io.ly = s.io Io.lyc ∧ (s.io Io.stat).getLsbD 6 = true then s.io Io.intFlag ||| 0x02#8
      else s.io Io.intFlag := by
  unfold lycCompare bitOf
  dsimp only
  split_ifs with hEq hSource hBoth hBoth
  all_goals simp_all [request]

@[simp] theorem lycCompare_ppuMode : (lycCompare s).ppuMode = s.ppuMode :=
  mode_of_bits fun k hk => (lycCompare_stat_bit s k).trans (if_neg hk)

@[simp] theorem lycCompare_ppu : (lycCompare s).ppu = s.ppu := (signalFrame_lycCompare s).ppu
@[simp] theorem lycCompare_lcdc (i : Nat) : (lycCompare s).lcdc i = s.lcdc i := (signalFrame_lycCompare s).lcdc i
@[simp] theorem lycCompare_ly : (lycCompare s).io Io.ly = s.io Io.ly := (signalFrame_lycCompare s).ly

end

/-! ## The LCD off (R402) -/

theorem ppuTick_of_lcd_off {s : State} (h : s.lcdc 7 = false) (n : Nat) :
    ppuTick n s = (s.setIo Io.ly 0).setScanlineCycles 0 := if_neg (by simp [h])

/-- Settles O46, signal by signal. -/
theorem ppuSignals : Obligations.PpuSignals := by
  intro s n m
  refine ⟨fun hOff => ⟨_, ppuTick_of_lcd_off hOff n, State.io_setIo_self .., fun k hk => ?_, rfl⟩,
    ⟨_, rfl, setMode_ppuMode m s, fun k hk => ?_, ?_, (signalFrame_setMode m s).io, (signalFrame_setMode m s).eq⟩,
    ⟨_, rfl, lycCompare_stat_bit s 2, fun k hk => (lycCompare_stat_bit s k).trans (if_neg hk), lycCompare_intFlag s,
      (signalFrame_lycCompare s).io, (signalFrame_lycCompare s).eq⟩⟩
  · exact (State.io_setIo ..).trans (if_neg hk)
  · rw [setMode_stat, getLsbD_putMode _ m hk]
  · simp only [setMode_intFlag, statSource_iff]

end Sys2Proof.Machine
end

section
/-! PROOFS. The statement that a tick of the PPU may be cut anywhere (50_ppu.md). The end of a mode only takes the mode's
length from the cycles of the line, and a render reads none of what a tick changes, so that a tick is a run of mode ends
with the cycles left after them. -/

namespace Sys2Proof.Machine

/-! ## What a render reads (R410 to R425) -/

section

variable {s t : State}

theorem PpuFrame.rfl' (s : State) : PpuFrame s s := ⟨rfl, rfl, rfl, rfl, rfl, rfl, rfl, fun _ _ _ _ => rfl⟩

theorem PpuFrame.lcdc (h : PpuFrame s t) (i : Nat) : t.lcdc i = s.lcdc i := by
  rw [State.lcdc, State.lcdc, h.io Io.lcdc (by decide) (by decide) (by decide)]

theorem PpuFrame.vramAt (h : PpuFrame s t) (a : Nat) : t.vramAt a = s.vramAt a := by
  rw [State.vramAt, State.vramAt, h.mem]

theorem PpuFrame.oamAt (h : PpuFrame s t) (k : Nat) : t.oamAt k = s.oamAt k := by
  rw [State.oamAt, State.oamAt, h.mem]

/-- The registers that a render reads, beside LCDC. -/
theorem PpuFrame.registers (h : PpuFrame s t) :
    t.io Io.scy = s.io Io.scy ∧ t.io Io.scx = s.io Io.scx ∧ t.io Io.bgp = s.io Io.bgp ∧ t.io Io.obp0 = s.io Io.obp0 ∧
      t.io Io.obp1 = s.io Io.obp1 ∧ t.io Io.wy = s.io Io.wy ∧ t.io Io.wx = s.io Io.wx := by
  refine ⟨?_, ?_, ?_, ?_, ?_, ?_, ?_⟩ <;> exact h.io _ (by decide) (by decide) (by decide)

theorem PpuFrame.tilePixel (h : PpuFrame s t) : tilePixel t = tilePixel s := by
  funext a row col
  simp only [Machine.tilePixel, h.vramAt]

theorem PpuFrame.mapPixel (h : PpuFrame s t) : mapPixel t = mapPixel s := by
  funext map mx my
  simp only [Machine.mapPixel, tileAddr, h.tilePixel, h.vramAt, h.lcdc]

theorem PpuFrame.bgPixel (h : PpuFrame s t) : bgPixel t = bgPixel s := by
  funext ly x
  simp only [Machine.bgPixel, h.mapPixel, h.lcdc, h.registers]

theorem PpuFrame.windowPixel (h : PpuFrame s t) : windowPixel t = windowPixel s := by
  have hCovers : windowCovers t = windowCovers s := by
    funext ly x
    simp only [windowCovers, h.lcdc, h.registers]
  funext ly x under
  simp only [Machine.windowPixel, hCovers, h.mapPixel, h.lcdc, h.registers]

theorem PpuFrame.spriteHeight (h : PpuFrame s t) : spriteHeight t = spriteHeight s := by
  simp only [Machine.spriteHeight, h.lcdc]

theorem PpuFrame.selectSprites (h : PpuFrame s t) : selectSprites t = selectSprites s := by
  have hLine : spriteOnLine t = spriteOnLine s := by
    funext ly i
    simp only [spriteOnLine, h.oamAt, h.spriteHeight]
  funext ly
  simp only [Machine.selectSprites, hLine, h.lcdc]

theorem PpuFrame.drawOrder (h : PpuFrame s t) (p : SpritePriority) : drawOrder p t = drawOrder p s := by
  have hBefore : drawnBefore p t = drawnBefore p s := by
    funext i j
    simp only [drawnBefore, h.oamAt]
  have hPlace : placeSprite p t = placeSprite p s := by
    funext i l
    induction l with
    | nil => rfl
    | cons j l ih => simp only [placeSprite, hBefore, ih]
  funext sel
  simp only [Machine.drawOrder, hPlace]

theorem PpuFrame.drawSprite (h : PpuFrame s t) : drawSprite t = drawSprite s := by
  funext ly x bgIndex under i
  simp only [Machine.drawSprite, spriteIndex, spriteRow, spriteTileAddr, spritePalette, h.tilePixel, h.oamAt,
    h.spriteHeight, h.lcdc, h.registers]

/-- A render does not read what a PPU tick changes. -/
theorem PpuFrame.linePixel (h : PpuFrame s t) : linePixel t = linePixel s := by
  funext ly order x
  simp only [Machine.linePixel, h.bgPixel, h.windowPixel, h.drawSprite]

theorem PpuFrame.renderLine_framebuffer (h : PpuFrame s t) (hf : t.ppu.framebuffer = s.ppu.framebuffer) (ly : Nat) :
    (renderLine ly t).ppu.framebuffer = (renderLine ly s).ppu.framebuffer := by
  simp only [renderLine, h.linePixel, h.drawOrder, h.selectSprites, hf]

end

/-! ## The end of a mode (R403) -/

section

variable (s : State) (c : Nat)

@[simp] theorem setScanlineCycles_setScanlineCycles (n : Nat) :
    (s.setScanlineCycles c).setScanlineCycles n = s.setScanlineCycles n := rfl

@[simp] theorem setIo_setScanlineCycles (k : Nat) (v : Byte) :
    (s.setScanlineCycles c).setIo k v = (s.setIo k v).setScanlineCycles c := rfl

@[simp] theorem setMode_setScanlineCycles (m : BitVec 2) :
    setMode m (s.setScanlineCycles c) = (setMode m s).setScanlineCycles c := by
  unfold setMode
  rw [State.io_setScanlineCycles]
  split <;> rfl

@[simp] theorem lycCompare_setScanlineCycles :
    lycCompare (s.setScanlineCycles c) = (lycCompare s).setScanlineCycles c := by
  show (if s.io Io.ly = s.io Io.lyc then if bitOf (s.io Io.stat) 6 then _ else _ else _) = _
  unfold lycCompare
  dsimp only
  split_ifs <;> rfl

@[simp] theorem vblankEntered_setScanlineCycles :
    vblankEntered (s.setScanlineCycles c) = (vblankEntered s).setScanlineCycles c := by
  unfold vblankEntered
  rw [setMode_setScanlineCycles]
  rfl

theorem ppuFrame_setScanlineCycles : PpuFrame s (s.setScanlineCycles c) := (ppuFrame_keeps s).scanline s c (.rfl' s)

@[simp] theorem renderLine_setScanlineCycles (ly : Nat) :
    renderLine ly (s.setScanlineCycles c) = (renderLine ly s).setScanlineCycles c := by
  have h := ppuFrame_setScanlineCycles s c
  simp only [renderLine, h.linePixel, h.drawOrder, h.selectSprites]
  rfl

end

section

variable {s : State}

theorem endMode_eq_endHBlank (h : s.ppuMode = 0#2) : endMode s = endHBlank s := by
  rw [endMode, h]
  rfl

theorem endMode_eq_endVBlankLine (h : s.ppuMode = 1#2) : endMode s = endVBlankLine s := by
  rw [endMode, h]
  rfl

theorem endMode_eq_endOamSearch (h : s.ppuMode = 2#2) : endMode s = endOamSearch s := by
  rw [endMode, h]
  rfl

theorem endMode_eq_endDrawing (h : s.ppuMode = 3#2) : endMode s = endDrawing s := by
  rw [endMode, h]
  rfl

/-- The end of the mode leaves `next`, whatever the cycles of the line, and takes the mode's length from them. -/
def ModeNext (s next : State) : Prop :=
  ∀ c, endMode (s.setScanlineCycles c) = next.setScanlineCycles (c - modeLength s.ppuMode)

theorem modeNext_oamSearch (h : s.ppuMode = 2#2) : ModeNext s (setMode 3 s) := by
  intro c
  rw [endMode_eq_endOamSearch (s := s.setScanlineCycles c) h, h, ← setMode_setScanlineCycles]
  rfl

theorem modeNext_drawing (h : s.ppuMode = 3#2) (hl : (s.io Io.ly).toNat < 144) :
    ModeNext s (renderLine (s.io Io.ly).toNat (setMode 0 s)) := by
  intro c
  rw [endMode_eq_endDrawing (s := s.setScanlineCycles c) h, h, ← renderLine_setScanlineCycles,
    ← setMode_setScanlineCycles]
  exact if_pos hl

theorem modeNext_drawing_past (h : s.ppuMode = 3#2) (hl : 144 ≤ (s.io Io.ly).toNat) : ModeNext s (setMode 0 s) := by
  intro c
  rw [endMode_eq_endDrawing (s := s.setScanlineCycles c) h, h, ← setMode_setScanlineCycles]
  exact if_neg (Nat.not_lt.mpr hl)

/-- LY becomes 144 from 143 only. -/
theorem add_one_eq_144_iff (v : Byte) : v + 1 = 144#8 ↔ v = 143#8 := by
  bv_omega

theorem modeNext_hblank (h : s.ppuMode = 0#2) (hl : s.io Io.ly ≠ 143#8) :
    ModeNext s (setMode 2 (lycCompare (s.setIo Io.ly (s.io Io.ly + 1)))) := by
  intro c
  rw [endMode_eq_endHBlank (s := s.setScanlineCycles c) h, h, ← setMode_setScanlineCycles,
    ← lycCompare_setScanlineCycles, ← setIo_setScanlineCycles]
  exact if_neg (mt (add_one_eq_144_iff _).mp hl)

theorem modeNext_hblank_143 (h : s.ppuMode = 0#2) (hl : s.io Io.ly = 143#8) :
    ModeNext s (vblankEntered (lycCompare (s.setIo Io.ly 144))) := by
  intro c
  have hNext : s.io Io.ly + 1 = 144 := (add_one_eq_144_iff _).mpr hl
  rw [endMode_eq_endHBlank (s := s.setScanlineCycles c) h, h, ← vblankEntered_setScanlineCycles,
    ← lycCompare_setScanlineCycles, ← setIo_setScanlineCycles]
  exact (if_pos hNext).trans (by rw [State.io_setScanlineCycles, hNext]; rfl)

theorem modeNext_vblank (h : s.ppuMode = 1#2) (hlo : 144 ≤ (s.io Io.ly).toNat) (hhi : (s.io Io.ly).toNat < 153) :
    ModeNext s (lycCompare (s.setIo Io.ly (s.io Io.ly + 1))) := by
  intro c
  rw [endMode_eq_endVBlankLine (s := s.setScanlineCycles c) h, h, ← lycCompare_setScanlineCycles,
    ← setIo_setScanlineCycles]
  exact if_neg (by rw [State.io_setScanlineCycles]; omega)

theorem modeNext_vblank_153 (h : s.ppuMode = 1#2) (hl : (s.io Io.ly).toNat < 144 ∨ 153 ≤ (s.io Io.ly).toNat) :
    ModeNext s (lycCompare (setMode 2 (s.setIo Io.ly 0))) := by
  intro c
  rw [endMode_eq_endVBlankLine (s := s.setScanlineCycles c) h, h, ← lycCompare_setScanlineCycles,
    ← setMode_setScanlineCycles, ← setIo_setScanlineCycles]
  exact if_pos hl

/-- A property of each of the seven successors, under its condition, is one of a successor. -/
theorem exists_modeNext {P : State → Prop} (s : State) (oamSearch : s.ppuMode = 2#2 → P (setMode 3 s))
    (drawing : s.ppuMode = 3#2 → (s.io Io.ly).toNat < 144 → P (renderLine (s.io Io.ly).toNat (setMode 0 s)))
    (drawingPast : s.ppuMode = 3#2 → 144 ≤ (s.io Io.ly).toNat → P (setMode 0 s))
    (hblank : s.ppuMode = 0#2 → s.io Io.ly ≠ 143#8 → P (setMode 2 (lycCompare (s.setIo Io.ly (s.io Io.ly + 1)))))
    (hblank143 : s.ppuMode = 0#2 → s.io Io.ly = 143#8 → P (vblankEntered (lycCompare (s.setIo Io.ly 144))))
    (vblank : s.ppuMode = 1#2 → 144 ≤ (s.io Io.ly).toNat → (s.io Io.ly).toNat < 153 →
      P (lycCompare (s.setIo Io.ly (s.io Io.ly + 1))))
    (vblank153 : s.ppuMode = 1#2 → (s.io Io.ly).toNat < 144 ∨ 153 ≤ (s.io Io.ly).toNat →
      P (lycCompare (setMode 2 (s.setIo Io.ly 0)))) :
    ∃ next, ModeNext s next ∧ P next := by
  obtain h | h | h | h : s.ppuMode = 0#2 ∨ s.ppuMode = 1#2 ∨ s.ppuMode = 2#2 ∨ s.ppuMode = 3#2 := by
    generalize s.ppuMode = m
    revert m
    decide
  · by_cases hl : s.io Io.ly = 143#8
    · exact ⟨_, modeNext_hblank_143 h hl, hblank143 h hl⟩
    · exact ⟨_, modeNext_hblank h hl, hblank h hl⟩
  · by_cases hl : (s.io Io.ly).toNat < 144 ∨ 153 ≤ (s.io Io.ly).toNat
    · exact ⟨_, modeNext_vblank_153 h hl, vblank153 h hl⟩
    · exact ⟨_, modeNext_vblank h (by omega) (by omega), vblank h (by omega) (by omega)⟩
  · exact ⟨_, modeNext_oamSearch h, oamSearch h⟩
  · by_cases hl : (s.io Io.ly).toNat < 144
    · exact ⟨_, modeNext_drawing h hl, drawing h hl⟩
    · exact ⟨_, modeNext_drawing_past h (by omega), drawingPast h (by omega)⟩

end

/-! ## The loop of R403 -/

section

variable {s next : State}

theorem setScanlineCycles_of_eq {c : Nat} (h : s.ppu.scanlineCycles = c) : s.setScanlineCycles c = s := by
  subst h
  rfl

theorem ModeNext.endMode_eq (h : ModeNext s next) :
    endMode s = next.setScanlineCycles (s.ppu.scanlineCycles - modeLength s.ppuMode) :=
  h s.ppu.scanlineCycles

theorem ModeNext.lcdc (h : ModeNext s next) (i : Nat) : next.lcdc i = s.lcdc i := by
  have hFrame : PpuFrame s (endMode s) := (ppuFrame_keeps s).endMode (.rfl' s)
  rw [← hFrame.lcdc i, h.endMode_eq]
  rfl

theorem ppuLoop_stays (h : s.ppu.scanlineCycles < modeLength s.ppuMode) (n : Nat) : ppuLoop n s = s := by
  cases n with
  | zero => rfl
  | succ n => exact if_neg (Nat.not_le.mpr h)

theorem ppuLoop_goes_on (h : modeLength s.ppuMode ≤ s.ppu.scanlineCycles) (n : Nat) :
    ppuLoop (n + 1) s = ppuLoop n (endMode s) := if_pos h

/-- As many turns as there are cycles are enough (log entry 7). -/
theorem ppuLoop_of_le {m n : Nat} (hm : s.ppu.scanlineCycles ≤ m) (hn : m ≤ n) : ppuLoop n s = ppuLoop m s := by
  have hLength := (modeLength_bounds s.ppuMode).1
  induction m generalizing n s with
  | zero => exact ppuLoop_stays (by omega) n
  | succ m ih =>
    obtain ⟨n, rfl⟩ := Nat.exists_eq_add_of_le' (by omega : 1 ≤ n)
    by_cases h : modeLength s.ppuMode ≤ s.ppu.scanlineCycles
    · rw [ppuLoop_goes_on h, ppuLoop_goes_on h]
      exact ih (by rw [endMode_scanline]; omega) (by omega) (modeLength_bounds _).1
    · rw [ppuLoop_stays (by omega), ppuLoop_stays (by omega)]

theorem ppuTick_of_lcd_on (h : s.lcdc 7 = true) (n : Nat) :
    ppuTick n s = ppuLoop (s.ppu.scanlineCycles + n) (s.setScanlineCycles (s.ppu.scanlineCycles + n)) := if_pos h

/-- R403: a tick stays in its mode, or goes on with the cycles left from the mode's successor. -/
theorem ModeNext.modeEnds (h : ModeNext s next) (hOn : s.lcdc 7 = true) (n : Nat) :
    ModeEnds s n (modeLength s.ppuMode) (next.setScanlineCycles 0) := by
  refine ⟨fun hlt => ?_, fun hle => ?_⟩ <;> rw [ppuTick_of_lcd_on hOn]
  · exact ppuLoop_stays hlt _
  · rw [ppuTick_of_lcd_on (s := next.setScanlineCycles 0) ((h.lcdc 7).trans hOn)]
    have hLength := (modeLength_bounds s.ppuMode).1
    generalize s.ppu.scanlineCycles + n = total at *
    obtain ⟨k, rfl⟩ := Nat.exists_eq_add_of_le' (by omega : 1 ≤ total)
    rw [ppuLoop_goes_on (s := s.setScanlineCycles (k + 1)) hle, h (k + 1)]
    simp only [State.setScanlineCycles_ppu_scanlineCycles, setScanlineCycles_setScanlineCycles, Nat.zero_add]
    exact ppuLoop_of_le (Nat.le_refl _) (by omega)

/-- R403, with the mode's length and its successor written out. -/
theorem ModeNext.modeEnds_of_eq (h : ModeNext s next) (hOn : s.lcdc 7 = true) {m : BitVec 2} (hm : s.ppuMode = m)
    {next' : State} (hn : next.setScanlineCycles 0 = next') (n : Nat) : ModeEnds s n (modeLength m) next' := by
  subst hm hn
  exact h.modeEnds hOn n

end

theorem exists_modeNext_any (s : State) : ∃ next, ModeNext s next := by
  obtain ⟨next, h, -⟩ := exists_modeNext (P := fun _ => True) s (fun _ => trivial) (fun _ _ => trivial)
    (fun _ _ => trivial) (fun _ _ => trivial) (fun _ _ => trivial) (fun _ _ _ => trivial) (fun _ _ => trivial)
  exact ⟨next, h⟩

/-! ## A tick cut in two -/

theorem Cells.erase_erase {w : Nat} (m : Cells w) (k : Nat) : (m.erase k).erase k = m.erase k := by
  rw [Cells.erase, Cells.erase, List.filter_filter]
  simp

/-- Zero is what an unlisted key reads as, so that writing it again changes nothing. -/
theorem setIo_zero_setIo_zero (s : State) (k : Nat) : (s.setIo k 0).setIo k 0 = s.setIo k 0 :=
  congrArg (fun m => { s with mem := { s.mem with io := m } }) (Cells.erase_erase s.mem.io k)

theorem ppuTick_ppuTick_of_lcd_off {s : State} (h : s.lcdc 7 = false) (m n : Nat) :
    ppuTick n (ppuTick m s) = ppuTick (m + n) s := by
  have hStill : ((s.setIo Io.ly 0).setScanlineCycles 0).lcdc 7 = false := by
    rw [State.lcdc, State.io_setScanlineCycles, State.io_setIo, if_neg (by decide)]
    exact h
  rw [ppuTick_of_lcd_off h, ppuTick_of_lcd_off h, ppuTick_of_lcd_off hStill, setIo_setScanlineCycles,
    setIo_zero_setIo_zero]
  rfl

/-- Both sides stay in the mode until it is over, and then go on from the same successor with the same cycles left. -/
theorem ppuTick_ppuTick_of_lcd_on (total : Nat) {s : State} (h : s.lcdc 7 = true) {m : Nat}
    (ht : s.ppu.scanlineCycles + m = total) (n : Nat) : ppuTick n (ppuTick m s) = ppuTick (m + n) s := by
  induction total using Nat.strong_induction_on generalizing s m with
  | _ total ih =>
    obtain ⟨next, hNext⟩ := exists_modeNext_any s
    have hLength := (modeLength_bounds s.ppuMode).1
    obtain ⟨stays, goesOn⟩ := hNext.modeEnds h m
    obtain ⟨-, goesOn'⟩ := hNext.modeEnds h (m + n)
    by_cases hle : modeLength s.ppuMode ≤ s.ppu.scanlineCycles + m
    · have hLeft : s.ppu.scanlineCycles + (m + n) - modeLength s.ppuMode =
          s.ppu.scanlineCycles + m - modeLength s.ppuMode + n := by omega
      rw [goesOn hle, goesOn' (by omega), hLeft]
      exact ih (s.ppu.scanlineCycles + m - modeLength s.ppuMode) (by omega) (s := next.setScanlineCycles 0)
        ((hNext.lcdc 7).trans h) (Nat.zero_add _)
    · have hStill : (s.setScanlineCycles (s.ppu.scanlineCycles + m)).lcdc 7 = true := h
      rw [stays (by omega), ppuTick_of_lcd_on h, ppuTick_of_lcd_on hStill, ← Nat.add_assoc]
      rfl

/-- Settles O47: with the LCD off both ticks clear LY, with it on the cut does not move the mode ends. -/
theorem ppuTicksAdd : Obligations.PpuTicksAdd := by
  intro s m n
  cases h : s.lcdc 7 with
  | false => exact ppuTick_ppuTick_of_lcd_off h m n
  | true => exact ppuTick_ppuTick_of_lcd_on _ h rfl n

end Sys2Proof.Machine
end

section
/-! PROOFS. The statements about the timing of the PPU (50_ppu.md): what a tick does at the end of each mode, the three
modes of a visible line, the 154 lines of a frame, and the range of LY. -/

namespace Sys2Proof.Machine

/-! ## The start of a mode -/

/-- Mode `m` of line `ly` has just begun, with the LCD on. -/
structure ModeStart (s : State) (m : BitVec 2) (ly : Nat) : Prop where
  lcdOn : s.lcdc 7 = true
  mode : s.ppuMode = m
  line : (s.io Io.ly).toNat = ly
  cycles : s.ppu.scanlineCycles = 0

theorem lineStart_iff (s : State) (ly : Nat) : lineStart s ly ↔ ModeStart s 2#2 ly :=
  ⟨fun ⟨h1, h2, h3, h4⟩ => ⟨h1, h2, h3, h4⟩, fun ⟨h1, h2, h3, h4⟩ => ⟨h1, h2, h3, h4⟩⟩

section

variable {s next : State} {m : BitVec 2} {ly : Nat}

theorem ModeStart.setMode (h : ModeStart s m ly) (m' : BitVec 2) : ModeStart (setMode m' s) m' ly :=
  ⟨(setMode_lcdc ..).trans h.lcdOn, setMode_ppuMode .., by rw [setMode_ly, h.line], by rw [setMode_ppu, h.cycles]⟩

theorem ModeStart.lycCompare (h : ModeStart s m ly) : ModeStart (lycCompare s) m ly :=
  ⟨(lycCompare_lcdc ..).trans h.lcdOn, (lycCompare_ppuMode s).trans h.mode, by rw [lycCompare_ly, h.line],
    by rw [lycCompare_ppu, h.cycles]⟩

theorem ModeStart.renderLine (h : ModeStart s m ly) (k : Nat) : ModeStart (renderLine k s) m ly :=
  ⟨h.lcdOn, h.mode, h.line, h.cycles⟩

theorem lcdc_setLy (s : State) (v : Byte) (i : Nat) : (s.setIo Io.ly v).lcdc i = s.lcdc i := by
  rw [State.lcdc, State.lcdc, State.io_setIo, if_neg (by decide)]

theorem ppuMode_setLy (s : State) (v : Byte) : (s.setIo Io.ly v).ppuMode = s.ppuMode := by
  rw [State.ppuMode, State.ppuMode, State.io_setIo, if_neg (by decide)]

theorem ModeStart.setLy (h : ModeStart s m ly) (v : Byte) : ModeStart (s.setIo Io.ly v) m v.toNat :=
  ⟨(lcdc_setLy ..).trans h.lcdOn, (ppuMode_setLy ..).trans h.mode, by rw [State.io_setIo_self], h.cycles⟩

theorem io_vblankEntered (s : State) {k : Nat} (h : k ≠ Io.intFlag) :
    (vblankEntered s).io k = (Machine.setMode 1 s).io k := (State.io_setIo ..).trans (if_neg h)

theorem vblankEntered_ppuMode (s : State) : (vblankEntered s).ppuMode = 1#2 := by
  rw [State.ppuMode, io_vblankEntered s (by decide)]
  exact setMode_ppuMode 1 s

theorem vblankEntered_intFlag (s : State) : ((vblankEntered s).io Io.intFlag).getLsbD 0 = true := by
  have h : (vblankEntered s).io Io.intFlag = (Machine.setMode 1 s).io Io.intFlag ||| 0x01#8 := State.io_setIo_self ..
  rw [h, BitVec.getLsbD_or]
  exact Bool.or_true _

theorem ModeStart.vblankEntered (h : ModeStart s m ly) : ModeStart (vblankEntered s) 1#2 ly := by
  have hMode := h.setMode 1
  refine ⟨?_, vblankEntered_ppuMode s, ?_, hMode.cycles⟩
  · rw [State.lcdc, io_vblankEntered s (by decide)]
    exact hMode.lcdOn
  · rw [io_vblankEntered s (by decide)]
    exact hMode.line

/-- A tick of no cycles. -/
theorem ModeStart.tick_zero (h : ModeStart s m ly) : ppuTick 0 s = s := by
  rw [ppuTick_of_lcd_on h.lcdOn, h.cycles]
  exact setScanlineCycles_of_eq h.cycles

/-- A tick as long as the mode leads to the successor. -/
theorem ModeStart.tick (h : ModeStart s m ly) (hNext : ModeNext s next) {m' : BitVec 2} {ly' : Nat}
    (h' : ModeStart next m' ly') : ppuTick (modeLength m) s = next := by
  obtain ⟨-, goesOn⟩ := hNext.modeEnds_of_eq h.lcdOn h.mode (setScanlineCycles_of_eq h'.cycles) (modeLength m)
  rw [h.cycles, Nat.zero_add, Nat.sub_self] at goesOn
  rw [goesOn (Nat.le_refl _), h'.tick_zero]

/-! ## A visible line (R401, R403) -/

/-- The line as it is rendered, at the start of HBlank. -/
def lineDrawn (s : State) (ly : Nat) : State := renderLine ly (Machine.setMode 0 (Machine.setMode 3 s))

theorem ModeStart.lineDrawn (h : ModeStart s 2#2 ly) : ModeStart (lineDrawn s ly) 0#2 ly :=
  ((h.setMode 3).setMode 0).renderLine ly

theorem ModeStart.tick_80 (h : ModeStart s 2#2 ly) : ppuTick 80 s = Machine.setMode 3 s :=
  h.tick (modeNext_oamSearch h.mode) (h.setMode 3)

theorem ModeStart.tick_252 (h : ModeStart s 2#2 ly) (hl : ly < 144) : ppuTick 252 s = Machine.lineDrawn s ly := by
  have hNext := modeNext_drawing (h.setMode 3).mode ((h.setMode 3).line.trans_lt hl)
  rw [(h.setMode 3).line] at hNext
  rw [← ppuTicksAdd s 80 172, h.tick_80]
  exact (h.setMode 3).tick hNext h.lineDrawn

/-- The state 456 cycles after the start of a line is a mode end later than HBlank's start. -/
theorem ModeStart.tick_456 (h : ModeStart s 2#2 ly) (hl : ly < 144) :
    ppuTick 456 s = ppuTick 204 (Machine.lineDrawn s ly) := by
  rw [← ppuTicksAdd s 252 204, h.tick_252 hl]

theorem ofNat_line_toNat (hl : ly < 144) : (BitVec.ofNat 8 (ly + 1)).toNat = ly + 1 := by
  rw [BitVec.toNat_ofNat]
  omega

theorem ModeStart.ly_eq (h : ModeStart s m ly) : s.io Io.ly = BitVec.ofNat 8 ly := by
  rw [← h.line, BitVec.ofNat_toNat, BitVec.setWidth_eq]

/-- The start of the line after `ly`. -/
def nextLine (s : State) (ly : Nat) : State :=
  Machine.setMode 2 (Machine.lycCompare ((Machine.lineDrawn s ly).setIo Io.ly (BitVec.ofNat 8 (ly + 1))))

theorem ModeStart.nextLine (h : ModeStart s 2#2 ly) (hl : ly < 143) : ModeStart (nextLine s ly) 2#2 (ly + 1) := by
  have hLine := ((h.lineDrawn.setLy (BitVec.ofNat 8 (ly + 1))).lycCompare).setMode 2
  rwa [ofNat_line_toNat (by omega)] at hLine

theorem ModeStart.tick_line (h : ModeStart s 2#2 ly) (hl : ly < 143) : ppuTick 456 s = Machine.nextLine s ly := by
  have hLy := h.lineDrawn.ly_eq
  have hNext := modeNext_hblank h.lineDrawn.mode (by rw [hLy]; bv_omega)
  have hAdd : BitVec.ofNat 8 ly + 1 = BitVec.ofNat 8 (ly + 1) := (BitVec.ofNat_add ly 1).symm
  rw [hLy, hAdd] at hNext
  rw [h.tick_456 (by omega)]
  exact h.lineDrawn.tick hNext (h.nextLine hl)

/-- The start of VBlank. -/
def vblankStart (s : State) : State :=
  Machine.vblankEntered (Machine.lycCompare ((Machine.lineDrawn s 143).setIo Io.ly 144))

theorem ModeStart.vblankStart (h : ModeStart s 2#2 143) : ModeStart (vblankStart s) 1#2 144 :=
  (h.lineDrawn.setLy 144).lycCompare.vblankEntered

theorem ModeStart.tick_line_143 (h : ModeStart s 2#2 143) : ppuTick 456 s = Machine.vblankStart s := by
  rw [h.tick_456 (by omega)]
  exact h.lineDrawn.tick (modeNext_hblank_143 h.lineDrawn.mode h.lineDrawn.ly_eq) h.vblankStart

theorem nextLine_frameReady (s : State) (ly : Nat) : (Machine.nextLine s ly).ppu.frameReady = s.ppu.frameReady := by
  simp [Machine.nextLine, Machine.lineDrawn, Machine.renderLine]

/-- R404, R410: the mode entries before a render change nothing that it reads. -/
theorem lineDrawn_framebuffer (s : State) (ly : Nat) :
    (Machine.lineDrawn s ly).ppu.framebuffer = (Machine.renderLine ly s).ppu.framebuffer := by
  have hFrame : PpuFrame s (Machine.setMode 0 (Machine.setMode 3 s)) :=
    (ppuFrame_keeps s).setMode 0 ((ppuFrame_keeps s).setMode 3 (.rfl' s))
  exact hFrame.renderLine_framebuffer (by simp) ly

end

/-- Settles O48: the seven successors, each in its form with the cycles at 0, and then the three modes of a line. -/
theorem lineTiming : Obligations.LineTiming := by
  refine ⟨fun s n hOn => ⟨fun hm => ?_, fun hm hl => ?_, fun hm hl => ?_, fun hm hl => ?_, fun hm hl => ?_,
    fun hm hlo hhi => ?_, fun hm hl => ?_⟩, fun s ly hs hl => ?_⟩
  · exact (modeNext_oamSearch hm).modeEnds_of_eq hOn hm (by simp) n
  · exact (modeNext_drawing hm hl).modeEnds_of_eq hOn hm (by simp) n
  · exact (modeNext_drawing_past hm hl).modeEnds_of_eq hOn hm (by simp) n
  · exact (modeNext_hblank hm hl).modeEnds_of_eq hOn hm (by simp) n
  · exact (modeNext_hblank_143 hm hl).modeEnds_of_eq hOn hm (by simp) n
  · exact (modeNext_vblank hm hlo hhi).modeEnds_of_eq hOn hm (by simp) n
  · exact (modeNext_vblank_153 hm hl).modeEnds_of_eq hOn hm (by simp) n
  · have h := (lineStart_iff s ly).mp hs
    have h80 := h.tick_80
    have h252 := h.tick_252 hl
    refine ⟨h80, ?_, h252, ?_, ?_, fun hl' => ?_, fun hl' => ?_⟩
    · rw [h80]
      exact (h.setMode 3).mode
    · rw [h252]
      exact h.lineDrawn.mode
    · rw [h252]
      exact lineDrawn_framebuffer s ly
    · have h456 := h.tick_line hl'
      rw [h456]
      exact ⟨rfl, (lineStart_iff ..).mpr (h.nextLine hl'), nextLine_frameReady s ly⟩
    · subst hl'
      have hStart := h.vblankStart
      exact ⟨_, h.tick_line_143, rfl, hStart.mode, hStart.line, hStart.cycles, rfl, vblankEntered_intFlag _⟩

/-! ## A frame (R401, R406, R590) -/

section

variable {s : State} {ly : Nat}

/-- The line of VBlank after `ly`. -/
theorem ModeStart.tick_vblank (h : ModeStart s 1#2 ly) (hlo : 144 ≤ ly) (hhi : ly < 153) :
    ModeStart (ppuTick 456 s) 1#2 (ly + 1) ∧ (ppuTick 456 s).ppu.frameReady = s.ppu.frameReady := by
  have hNext := modeNext_vblank h.mode (hlo.trans_eq h.line.symm) (h.line.trans_lt hhi)
  have hLy : (s.io Io.ly + 1).toNat = ly + 1 := by
    have := h.line
    bv_omega
  have hStart := (h.setLy (s.io Io.ly + 1)).lycCompare
  rw [hLy] at hStart
  have hTick : ppuTick 456 s = _ := h.tick hNext hStart
  rw [hTick]
  exact ⟨hStart, by simp⟩

/-- After line 153 comes line 0. -/
theorem ModeStart.tick_vblank_153 (h : ModeStart s 1#2 153) :
    ModeStart (ppuTick 456 s) 2#2 0 ∧ (ppuTick 456 s).ppu.frameReady = s.ppu.frameReady := by
  have hStart := ((h.setLy 0).setMode 2).lycCompare
  have hTick : ppuTick 456 s = _ := h.tick (modeNext_vblank_153 h.mode (.inr h.line.ge)) hStart
  rw [hTick]
  exact ⟨hStart, by simp⟩

/-- The visible lines, from line 0 on. -/
theorem ModeStart.tick_lines (h : ModeStart s 2#2 0) (k : Nat) (hk : k ≤ 143) :
    ModeStart (ppuTick (456 * k) s) 2#2 k := by
  induction k with
  | zero => rwa [Nat.mul_zero, h.tick_zero]
  | succ k ih =>
    have hLine := ih (by omega)
    rw [Nat.mul_succ, ← ppuTicksAdd, hLine.tick_line hk]
    exact hLine.nextLine hk

/-- The lines of VBlank, from line 144 on. -/
theorem ModeStart.tick_vblanks (h : ModeStart s 1#2 144) (k : Nat) (hk : k ≤ 9) :
    ModeStart (ppuTick (456 * k) s) 1#2 (144 + k) ∧ (ppuTick (456 * k) s).ppu.frameReady = s.ppu.frameReady := by
  induction k with
  | zero =>
    rw [Nat.mul_zero, h.tick_zero]
    exact ⟨h, rfl⟩
  | succ k ih =>
    obtain ⟨hLine, hReady⟩ := ih (by omega)
    rw [Nat.mul_succ, ← ppuTicksAdd]
    obtain ⟨hNext, hReady'⟩ := hLine.tick_vblank (by omega) (by omega)
    exact ⟨hNext, hReady'.trans hReady⟩

end

/-- Settles O49: the 144 visible lines, of which the last leads to VBlank, and then the ten lines of VBlank. -/
theorem frameTiming : Obligations.FrameTiming := by
  intro s hs
  have hLast := ((lineStart_iff s 0).mp hs).tick_lines 143 (by decide)
  obtain ⟨hVblank, hReady⟩ := hLast.vblankStart.tick_vblanks 9 (by decide)
  obtain ⟨hStart, hReady'⟩ := hVblank.tick_vblank_153
  have hFrame : ppuTick 70224 s =
      ppuTick 456 (ppuTick (456 * 9) (ppuTick 456 (ppuTick (456 * 143) s))) := by
    rw [ppuTicksAdd, ppuTicksAdd, ppuTicksAdd]
  rw [hFrame, hLast.tick_line_143, lineStart_iff]
  exact ⟨hStart, hReady'.trans hReady⟩

/-! ## LY in its range (R75, R406) -/

theorem lineOk_of_visible {s : State} (h : (s.io Io.ly).toNat < 144) : LineOk s := ⟨by omega, fun _ => h⟩

theorem lineOk_of_vblank {s : State} (hm : s.ppuMode = 1#2) (h : (s.io Io.ly).toNat ≤ 153) : LineOk s :=
  ⟨h, fun hne => absurd hm hne⟩

/-- Each of the seven successors is on a line of its mode. -/
theorem exists_lineOk_next {s : State} (h : LineOk s) : ∃ next, ModeNext s next ∧ LineOk next := by
  obtain ⟨hMax, hVisible⟩ := h
  have visible {m : BitVec 2} (hm : s.ppuMode = m) (hne : m ≠ 1#2) : (s.io Io.ly).toNat < 144 :=
    hVisible (hm.trans_ne hne)
  refine exists_modeNext s (fun hm => lineOk_of_visible ?oamSearch) (fun _ hl => lineOk_of_visible ?drawing)
    (fun hm hl => absurd (visible hm (by decide)) (Nat.not_lt.mpr hl)) (fun hm hl => lineOk_of_visible ?hblank)
    (fun _ _ => lineOk_of_vblank (vblankEntered_ppuMode _) ?hblank143) (fun hm _ _ => lineOk_of_vblank ?mode ?vblank)
    (fun _ _ => lineOk_of_visible ?vblank153)
  case oamSearch =>
    rw [setMode_ly]
    exact visible hm (by decide)
  case drawing =>
    show ((setMode 0 s).io Io.ly).toNat < 144
    rwa [setMode_ly]
  case hblank =>
    have hLine := visible hm (by decide)
    rw [setMode_ly, lycCompare_ly, State.io_setIo_self]
    bv_omega
  case hblank143 =>
    rw [io_vblankEntered _ (by decide), setMode_ly, lycCompare_ly, State.io_setIo_self]
    decide
  case mode => rw [lycCompare_ppuMode, ppuMode_setLy, hm]
  case vblank =>
    rw [lycCompare_ly, State.io_setIo_self]
    bv_omega
  case vblank153 =>
    rw [lycCompare_ly, setMode_ly, State.io_setIo_self]
    decide

theorem lineOk_ppuLoop (n : Nat) {s : State} (h : LineOk s) : LineOk (ppuLoop n s) := by
  induction n generalizing s with
  | zero => exact h
  | succ n ih =>
    unfold ppuLoop
    split_ifs
    · obtain ⟨next, hNext, hOk⟩ := exists_lineOk_next h
      rw [hNext.endMode_eq]
      exact ih hOk
    · exact h

/-- Settles O50: with the LCD off LY is 0, with it on every mode end keeps the range. -/
theorem lineKept : Obligations.LineKept := by
  intro s n h
  cases hOn : s.lcdc 7 with
  | false =>
    rw [ppuTick_of_lcd_off hOn]
    refine lineOk_of_visible ?_
    rw [State.io_setScanlineCycles, State.io_setIo_self]
    decide
  | true =>
    rw [ppuTick_of_lcd_on hOn]
    exact lineOk_ppuLoop _ h

end Sys2Proof.Machine
end

section
/-! PROOFS. The statements about what a render draws (50_ppu.md): the entries of its line, the pixels of the background and
the window, the sprites of a line, and which of them gives the shade of a column. -/

namespace Sys2Proof.Machine

/-! ## Tiles and palettes (R412 to R415) -/

theorem bitOf_toNat (v : Byte) (i : Nat) : (bitOf v i).toNat = v.toNat / 2 ^ i % 2 := Nat.toNat_testBit v.toNat i

theorem tilePixel_toNat (s : State) (a row col : Nat) : (tilePixel s a row col).toNat = tileColour s a row col := by
  have hPair (hi lo : Bool) : (BitVec.ofBool hi ++ BitVec.ofBool lo).toNat = 2 * hi.toNat + lo.toNat := by
    revert hi lo
    decide
  rw [tilePixel, hPair, bitOf_toNat, bitOf_toNat]
  rfl

/-- R413: the tile's address, in both addressing modes. -/
theorem tileAddr_eq (s : State) (t : Byte) : tileAddr s t =
    (if s.lcdc 4 then 0x8000 + (t.toNat : Int) * 16 else 0x9000 + signed8 t * 16).toNat := by
  rw [tileAddr, signed8_eq_toInt]
  split_ifs
  · omega
  · rfl

theorem mapPixel_toNat (s : State) (map mx my : Nat) : (mapPixel s map mx my).toNat = mapColour s map mx my := by
  rw [mapPixel, tilePixel_toNat, tileAddr_eq]
  rfl

/-- R415. -/
theorem shadeOf_toNat (palette : Byte) (ci : Shade) : (shadeOf palette ci).toNat = palette.toNat / 4 ^ ci.toNat % 4 := by
  rw [shadeOf, toNat_lowBits, BitVec.toNat_ushiftRight, Nat.shiftRight_eq_div_pow, pow_mul]
  rfl

/-- R412, R415: a pixel taken from a tile map. -/
theorem pixelIs_mapPixel (s : State) (map mx my : Nat) :
    PixelIs s { index := mapPixel s map mx my, shade := shadeOf (s.io Io.bgp) (mapPixel s map mx my) }
      (mapColour s map mx my) :=
  ⟨mapPixel_toNat .., by rw [shadeOf_toNat, mapPixel_toNat]⟩

/-! ## The background and the window (R412, R416 to R418) -/

theorem bgPixel_of_off {s : State} (h : s.lcdc 0 = false) (ly x : Nat) : bgPixel s ly x = { index := 0, shade := 0 } :=
  if_neg (by simp [h])

theorem bgPixel_of_on {s : State} (h : s.lcdc 0 = true) (ly x : Nat) : PixelIs s (bgPixel s ly x)
    (mapColour s (mapBase (s.lcdc 3)) ((x + (s.io Io.scx).toNat) % 256) ((ly + (s.io Io.scy).toNat) % 256)) := by
  rw [bgPixel, if_pos h]
  exact pixelIs_mapPixel ..

theorem windowCovers_iff (s : State) (ly x : Nat) : windowCovers s ly x = true ↔
    s.lcdc 5 = true ∧ (s.io Io.wy).toNat ≤ ly ∧ (s.io Io.wx).toNat ≤ 166 ∧ (s.io Io.wx).toNat ≤ x + 7 := by
  simp only [windowCovers, Bool.and_eq_true, decide_eq_true_eq, and_assoc]

/-- Settles O51: the range of entries that is written, and then the pixel of each column by the layers it is taken from. -/
theorem renderRow : Obligations.RenderRow := by
  intro s ly _
  refine ⟨_, rfl, fun x hx => ?inside, fun k hk => ?outside, rfl,
    fun x hx => ⟨fun h => bgPixel_of_off h ly x, fun h => bgPixel_of_on h ly x, fun p => ⟨fun h => ?covered, fun h => ?free⟩⟩⟩
  case inside =>
    show Cells.read (Cells.writeRange _ _ _ 160) (ly * 160 + x) = _
    rw [Cells.read_writeRange, if_pos (by omega), Nat.add_sub_cancel_left]
    rfl
  case outside =>
    show Cells.read (Cells.writeRange _ _ _ 160) k = _
    rw [Cells.read_writeRange, if_neg (by omega)]
  case covered =>
    rw [windowPixel, if_pos ((windowCovers_iff s ly x).mpr h)]
    exact pixelIs_mapPixel ..
  case free => exact if_neg (mt (windowCovers_iff s ly x).mp h)

/-! ## The sprites of a line (R419, R420) -/

theorem spriteOnLine_iff (s : State) (ly i : Nat) : spriteOnLine s ly i = true ↔
    (s.oamAt (4 * i)).toNat ≤ ly + 16 ∧ ly + 16 < (s.oamAt (4 * i)).toNat + (if s.lcdc 2 then 16 else 8) := by
  simp only [spriteOnLine, Bool.and_eq_true, decide_eq_true_eq]
  rfl

/-- The sprites whose rows cover the line, in OAM order. -/
def spritesOnLine (s : State) (ly : Nat) : List Nat := (List.range 40).filter (spriteOnLine s ly)

theorem mem_spritesOnLine {s : State} {ly i : Nat} : i ∈ spritesOnLine s ly ↔ i < 40 ∧ spriteOnLine s ly i = true := by
  rw [spritesOnLine, List.mem_filter, List.mem_range]

theorem spritesOnLine_sorted (s : State) (ly : Nat) : (spritesOnLine s ly).Pairwise (· < ·) :=
  List.pairwise_lt_range.filter _

theorem selectSprites_of_on {s : State} (h : s.lcdc 1 = true) (ly : Nat) :
    selectSprites s ly = (spritesOnLine s ly).take 10 := if_pos h

theorem selectSprites_of_off {s : State} (h : s.lcdc 1 = false) (ly : Nat) : selectSprites s ly = [] :=
  if_neg (by simp [h])

/-- The selected sprites are the first of those on the line. -/
theorem selectSprites_sublist (s : State) (ly : Nat) : (selectSprites s ly).Sublist (spritesOnLine s ly) := by
  cases h : s.lcdc 1 with
  | false =>
    rw [selectSprites_of_off h]
    exact List.nil_sublist _
  | true =>
    rw [selectSprites_of_on h]
    exact List.take_sublist ..

theorem selectSprites_sorted (s : State) (ly : Nat) : (selectSprites s ly).Pairwise (· < ·) :=
  (spritesOnLine_sorted s ly).sublist (selectSprites_sublist s ly)

/-- What the first `n` elements of a sorted list leave out comes after `n` of them. -/
theorem take_full_of_not_mem {l : List Nat} (hl : l.Pairwise (· < ·)) {i n : Nat} (hi : i ∈ l) (hn : i ∉ l.take n) :
    (l.take n).length = n ∧ ∀ j ∈ l.take n, j < i := by
  rw [← List.take_append_drop n l] at hl hi
  have hDrop : i ∈ l.drop n := (List.mem_append.mp hi).resolve_left hn
  refine ⟨?_, fun j hj => (List.pairwise_append.mp hl).2.2 j hj i hDrop⟩
  rw [List.length_take]
  have := List.length_pos_of_mem hDrop
  rw [List.length_drop] at this
  omega

/-- Settles O52: the first ten of the sprites on the line, which are sorted. -/
theorem spriteSelection : Obligations.SpriteSelection := by
  intro s ly
  refine ⟨fun h => selectSprites_of_off h ly, ?length, selectSprites_sorted s ly, fun i hi => ?onLine,
    fun i hOn hi hTop hBottom hOut => ?leftOut⟩
  case length =>
    unfold selectSprites
    split_ifs
    · exact List.length_take_le ..
    · exact Nat.zero_le _
  case onLine =>
    obtain ⟨h40, hLine⟩ := mem_spritesOnLine.mp ((selectSprites_sublist s ly).subset hi)
    exact ⟨h40, (spriteOnLine_iff s ly i).mp hLine⟩
  case leftOut =>
    have hMem := mem_spritesOnLine.mpr ⟨hi, (spriteOnLine_iff s ly i).mpr ⟨hTop, hBottom⟩⟩
    rw [selectSprites_of_on hOn] at hOut ⊢
    exact take_full_of_not_mem (spritesOnLine_sorted s ly) hMem hOut

/-! ## The pixels of a sprite (R421, R422) -/

/-- R421: the low bit of a tall sprite's tile is masked. -/
theorem mask_tile_toNat (t : Byte) : (t &&& 0xFE#8).toNat = t.toNat - t.toNat % 2 := by
  revert t
  decide

theorem spriteTileAddr_eq (s : State) (i : Nat) : spriteTileAddr s i =
    0x8000 + (if s.lcdc 2 then (s.oamAt (4 * i + 2)).toNat - (s.oamAt (4 * i + 2)).toNat % 2
      else (s.oamAt (4 * i + 2)).toNat) * 16 := by
  rw [spriteTileAddr, apply_ite BitVec.toNat, mask_tile_toNat]

section

variable {s : State} {ly i x : Nat}

/-- R422: a sprite reaches the eight columns from X - 8 on. -/
theorem spriteIndex_of_reached {c : Nat} (hc : c < 8) (hx : x + 8 = (s.oamAt (4 * i + 1)).toNat + c) :
    spriteIndex s ly i x = some (tilePixel s (spriteTileAddr s i) (spriteRow s ly i)
      (if bitOf (s.oamAt (4 * i + 3)) 5 then 7 - c else c)) := by
  have hColumn : x + 8 - (s.oamAt (4 * i + 1)).toNat = c := by omega
  rw [spriteIndex]
  dsimp only
  rw [if_pos (by omega), hColumn]

theorem spriteIndex_of_not_reached (h : ∀ c, c < 8 → x + 8 ≠ (s.oamAt (4 * i + 1)).toNat + c) :
    spriteIndex s ly i x = none := by
  refine if_neg fun ⟨hLeft, hRight⟩ => ?_
  exact h (x + 8 - (s.oamAt (4 * i + 1)).toNat) (by omega) (by omega)

theorem spritePixel_toNat (s : State) (ly i c : Nat) :
    (tilePixel s (spriteTileAddr s i) (spriteRow s ly i)
      (if bitOf (s.oamAt (4 * i + 3)) 5 then 7 - c else c)).toNat = spriteColour s ly i c := by
  rw [tilePixel_toNat, spriteTileAddr_eq]
  rfl

/-! ## Drawing one sprite (R422, R423) -/

variable {bg under ci : Shade}

theorem drawSprite_of_shows (h : spriteShows s ly x bg i ci) :
    drawSprite s ly x bg under i = shadeOf (spritePalette s i) ci := by
  obtain ⟨hIndex, hOpaque, hFront⟩ := h
  rw [drawSprite, hIndex]
  dsimp only
  rw [if_neg hOpaque, if_neg hFront]

theorem drawSprite_of_not_shows (h : ∀ ci, ¬spriteShows s ly x bg i ci) : drawSprite s ly x bg under i = under := by
  unfold drawSprite
  split
  next => rfl
  next ci hIndex =>
    split_ifs with hClear hBehind
    · rfl
    · rfl
    · exact absurd ⟨hIndex, hClear, hBehind⟩ (h ci)

theorem foldl_drawSprite_of_not_shows {l : List Nat} (h : ∀ j ∈ l, ∀ cj, ¬spriteShows s ly x bg j cj) (under : Shade) :
    l.foldl (drawSprite s ly x bg) under = under := by
  induction l generalizing under with
  | nil => rfl
  | cons j l ih =>
    rw [List.foldl_cons, drawSprite_of_not_shows (h j List.mem_cons_self)]
    exact ih (fun k hk => h k (List.mem_cons_of_mem j hk)) under

/-! ## The drawing order (R425) -/

/-- What the decided `SpritePriority` orders by: X, then the index. -/
def spriteKey (s : State) (i : Nat) : Nat ×ₗ Nat := toLex ((s.oamAt (4 * i + 1)).toNat, i)

theorem spriteKey_lt_iff (s : State) (i j : Nat) : spriteKey s i < spriteKey s j ↔
    (s.oamAt (4 * i + 1)).toNat < (s.oamAt (4 * j + 1)).toNat ∨
      (s.oamAt (4 * i + 1)).toNat = (s.oamAt (4 * j + 1)).toNat ∧ i < j :=
  Prod.Lex.toLex_lt_toLex

/-- A sprite of the lower key is drawn later. -/
theorem drawnBefore_iff (s : State) (i j : Nat) : drawnBefore .xThenOam s i j = true ↔ spriteKey s j < spriteKey s i := by
  rw [spriteKey_lt_iff, eq_comm (a := (s.oamAt (4 * j + 1)).toNat)]
  simp only [drawnBefore, Bool.or_eq_true, Bool.and_eq_true, decide_eq_true_eq]

theorem placeSprite_perm (p : SpritePriority) (s : State) (i : Nat) (l : List Nat) :
    (placeSprite p s i l).Perm (i :: l) := by
  induction l with
  | nil => exact .rfl
  | cons j l ih =>
    unfold placeSprite
    split_ifs
    · exact .rfl
    · exact (ih.cons j).trans (.swap i j l)

theorem drawOrder_perm (p : SpritePriority) (s : State) (sel : List Nat) : (drawOrder p s sel).Perm sel := by
  induction sel with
  | nil => exact .rfl
  | cons i sel ih => exact (placeSprite_perm p s i _).trans (ih.cons i)

/-- Placing keeps the keys falling. -/
theorem placeSprite_sorted {l : List Nat} (i : Nat) (h : l.Pairwise (fun a b => spriteKey s b ≤ spriteKey s a)) :
    (placeSprite .xThenOam s i l).Pairwise (fun a b => spriteKey s b ≤ spriteKey s a) := by
  induction l with
  | nil => exact List.pairwise_singleton ..
  | cons j l ih =>
    obtain ⟨hHead, hTail⟩ := List.pairwise_cons.mp h
    unfold placeSprite
    split_ifs with hBefore
    · rw [drawnBefore_iff] at hBefore
      refine List.pairwise_cons.mpr ⟨fun b hb => ?_, h⟩
      obtain rfl | hb := List.mem_cons.mp hb
      · exact hBefore.le
      · exact (hHead b hb).trans hBefore.le
    · rw [drawnBefore_iff, not_lt] at hBefore
      refine List.pairwise_cons.mpr ⟨fun b hb => ?_, ih hTail⟩
      obtain rfl | hb := List.mem_cons.mp ((placeSprite_perm _ s i l).subset hb)
      · exact hBefore
      · exact hHead b hb

theorem drawOrder_sorted (s : State) (sel : List Nat) :
    (drawOrder .xThenOam s sel).Pairwise (fun a b => spriteKey s b ≤ spriteKey s a) := by
  induction sel with
  | nil => exact .nil
  | cons i sel ih => exact placeSprite_sorted i ih

/-- The sprites drawn after `i` are others, and their keys are at most that of `i`. -/
theorem drawOrder_split {sel : List Nat} (hSel : sel.Nodup) (hi : i ∈ sel) :
    ∃ before after, drawOrder .xThenOam s sel = before ++ i :: after ∧
      ∀ j ∈ after, j ∈ sel ∧ j ≠ i ∧ spriteKey s j ≤ spriteKey s i := by
  have hPerm := drawOrder_perm .xThenOam s sel
  obtain ⟨before, after, hSplit⟩ := List.mem_iff_append.mp (hPerm.symm.subset hi)
  have hSorted := drawOrder_sorted s sel
  have hNodup := hPerm.symm.nodup hSel
  rw [hSplit] at hPerm hSorted hNodup
  obtain ⟨-, hSorted, -⟩ := List.pairwise_append.mp hSorted
  obtain ⟨-, hNodup, -⟩ := List.nodup_append.mp hNodup
  refine ⟨before, after, hSplit, fun j hj => ⟨hPerm.subset (by simp [hj]), ?_, (List.pairwise_cons.mp hSorted).1 j hj⟩⟩
  rintro rfl
  exact (List.nodup_cons.mp hNodup).1 hj

end

/-- Settles O53: the last sprite that shows in the drawing order gives the shade, and it is the one of the lowest key. -/
theorem spritePriorityRule : Obligations.SpritePriorityRule := by
  intro s ly x
  refine ⟨fun i _ c hc hx => ⟨_, spriteIndex_of_reached hc hx, spritePixel_toNat s ly i c⟩,
    fun i h => spriteIndex_of_not_reached h, fun h => ?none, fun i hi ci hShows hOthers => ?winner⟩
  case none =>
    exact foldl_drawSprite_of_not_shows (fun j hj => h j ((drawOrder_perm _ s _).subset hj)) _
  case winner =>
    obtain ⟨before, after, hSplit, hAfter⟩ := drawOrder_split (s := s) ((selectSprites_sorted s ly).imp ne_of_lt) hi
    have hLater : ∀ j ∈ after, ∀ cj, ¬spriteShows s ly x (windowPixel s ly x (bgPixel s ly x)).index j cj := by
      intro j hj cj hShows'
      obtain ⟨hSel, hne, hKey⟩ := hAfter j hj
      exact absurd ((spriteKey_lt_iff s i j).mpr (hOthers j hSel cj hShows' hne)) (not_lt.mpr hKey)
    have hOrder : drawOrder Config.spritePriority s (selectSprites s ly) = before ++ i :: after := hSplit
    rw [linePixel, hOrder, List.foldl_append, List.foldl_cons, drawSprite_of_shows hShows,
      foldl_drawSprite_of_not_shows hLater]
    rfl

end Sys2Proof.Machine
end

section
/-! PROOFS. The statement about the triggers of the APU (55_apu.md): what a control write with bit 7 set leaves in each
channel, field by field. -/

namespace Sys2Proof.Machine

/-! ## The fields that a trigger loads (R473, R474, R479) -/

/-- R479: the envelope, from the byte of NRx2. -/
theorem Envelope.load_fields (v : Byte) :
    (Envelope.load v).volume.toNat = v.toNat / 16 ∧ (Envelope.load v).increase = v.getLsbD 3 ∧
      (Envelope.load v).period.toNat = v.toNat % 8 ∧ (Envelope.load v).timer = v.toNat % 8 := by
  have hVolume : (v.extractLsb' 4 4).toNat = v.toNat / 16 := by
    rw [BitVec.extractLsb'_toNat, Nat.shiftRight_eq_div_pow]
    omega
  exact ⟨hVolume, rfl, toNat_lowBits v 3, toNat_lowBits v 3⟩

theorem freqHigh_toNat (f : BitVec 11) (v : Byte) : (freqHigh f v).toNat = f.toNat % 256 + v.toNat % 8 * 256 := by
  rw [freqHigh_eq, BitVec.toNat_ofNat]
  omega

/-- R490: the period of channel 4. -/
theorem Noise.period_eq (ch : Noise) : ch.period =
    (if ch.divisor = 0 then 8 else ch.divisor.toNat * 16) * 2 ^ ch.shiftAmount.toNat := Nat.shiftLeft_eq ..

section

variable {v : Byte} (h : v.getLsbD 7 = true)

include h

/-! ## The channels (R479 to R482) -/

/-- R479, R480: a square channel after a trigger. -/
theorem Square.trigger_fields {master : Bool} {nrx2 : Byte} {ch c : Square} (hc : c = ch.writeControl master nrx2 v) :
    c.frequency.toNat = ch.frequency.toNat % 256 + v.toNat % 8 * 256 ∧
      c.enabled = (ch.enabled || master && decide (8 ≤ nrx2.toNat)) ∧
      c.frequencyTimer = (2048 - c.frequency.toNat) * 4 ∧
      c.lengthCounter = (if ch.lengthCounter = 0 then 64 else ch.lengthCounter) ∧
      c.envelope.volume.toNat = nrx2.toNat / 16 ∧ c.envelope.increase = nrx2.getLsbD 3 ∧
      c.envelope.period.toNat = nrx2.toNat % 8 ∧ c.envelope.timer = nrx2.toNat % 8 ∧
      c = { ch with frequency := c.frequency, enabled := c.enabled, frequencyTimer := c.frequencyTimer,
                    lengthCounter := c.lengthCounter, envelope := c.envelope } := by
  rw [Square.writeControl, bitOf, h, if_pos rfl] at hc
  subst hc
  obtain ⟨hVolume, hIncrease, hPeriod, hTimer⟩ := Envelope.load_fields nrx2
  exact ⟨freqHigh_toNat .., by rw [← dacOn_eq]; rfl, rfl, rfl, hVolume, hIncrease, hPeriod, hTimer, rfl⟩

/-- R481: channel 3 after a trigger. -/
theorem Wave.trigger_fields {master : Bool} {ch c : Wave} (hc : c = ch.writeControl master v) :
    c.frequency.toNat = ch.frequency.toNat % 256 + v.toNat % 8 * 256 ∧
      c.enabled = (ch.enabled || master && ch.dacEnabled) ∧ c.frequencyTimer = (2048 - c.frequency.toNat) * 2 ∧
      c.lengthCounter = (if ch.lengthCounter = 0 then 256 else ch.lengthCounter) ∧
      c = { ch with frequency := c.frequency, enabled := c.enabled, frequencyTimer := c.frequencyTimer,
                    lengthCounter := c.lengthCounter, position := 0 } := by
  rw [Wave.writeControl, bitOf, h, if_pos rfl] at hc
  subst hc
  exact ⟨freqHigh_toNat .., rfl, rfl, rfl, rfl⟩

/-- R482: channel 4 after a trigger. -/
theorem Noise.trigger_fields {master : Bool} {nr42 : Byte} {ch c : Noise} (hc : c = ch.writeControl master nr42 v) :
    c.enabled = (ch.enabled || master && decide (8 ≤ nr42.toNat)) ∧
      c.frequencyTimer = (if ch.divisor = 0 then 8 else ch.divisor.toNat * 16) * 2 ^ ch.shiftAmount.toNat ∧
      c.lengthCounter = (if ch.lengthCounter = 0 then 64 else ch.lengthCounter) ∧
      c.envelope.volume.toNat = nr42.toNat / 16 ∧ c.envelope.increase = nr42.getLsbD 3 ∧
      c.envelope.period.toNat = nr42.toNat % 8 ∧ c.envelope.timer = nr42.toNat % 8 ∧
      c = { ch with enabled := c.enabled, frequencyTimer := c.frequencyTimer, lengthCounter := c.lengthCounter,
                    envelope := c.envelope, lfsr := 0x7FFF#15 } := by
  rw [Noise.writeControl, bitOf, h, if_pos rfl] at hc
  subst hc
  obtain ⟨hVolume, hIncrease, hPeriod, hTimer⟩ := Envelope.load_fields nr42
  exact ⟨by rw [← dacOn_eq]; rfl, Noise.period_eq ch, rfl, hVolume, hIncrease, hPeriod, hTimer, rfl⟩

/-! ## The control registers on the bus (R470, R471) -/

/-- R479: NR14 triggers the sweep too. -/
theorem memWrite_nr14 (s : State) : memWrite s 0xFF14#16 v = { s.setIo Io.nr14 v with apu := { s.apu with
    ch1 := s.apu.ch1.writeControl s.apu.masterEnable (s.io Io.nr12) v
    sweep := s.apu.sweep.trigger (s.apu.ch1.writeControl s.apu.masterEnable (s.io Io.nr12) v).frequency } } := by
  have hNr12 : (s.setIo Io.nr14 v).io Io.nr12 = s.io Io.nr12 := (State.io_setIo ..).trans (if_neg (by decide))
  have hEffect := congrArg (fun u => { s.setIo Io.nr14 v with apu := u }) (show s.apu.writeNr14 (s.io Io.nr12) v = _ by
    rw [Apu.writeNr14, bitOf, h, if_pos rfl])
  rw [memWrite_apu (k := Io.nr14) (by decide) (by decide), apuWrite_of_ne (by decide), hNr12]
  exact hEffect

end

theorem memWrite_nr24 (s : State) (v : Byte) : memWrite s 0xFF19#16 v = { s.setIo Io.nr24 v with apu := { s.apu with
    ch2 := s.apu.ch2.writeControl s.apu.masterEnable (s.io Io.nr22) v } } := by
  have hNr22 : (s.setIo Io.nr24 v).io Io.nr22 = s.io Io.nr22 := (State.io_setIo ..).trans (if_neg (by decide))
  rw [memWrite_apu (k := Io.nr24) (by decide) (by decide), apuWrite_of_ne (by decide), hNr22]
  rfl

theorem memWrite_nr34 (s : State) (v : Byte) : memWrite s 0xFF1E#16 v = { s.setIo Io.nr34 v with apu := { s.apu with
    ch3 := s.apu.ch3.writeControl s.apu.masterEnable v } } := by
  rw [memWrite_apu (k := Io.nr34) (by decide) (by decide), apuWrite_of_ne (by decide)]
  rfl

theorem memWrite_nr44 (s : State) (v : Byte) : memWrite s 0xFF23#16 v = { s.setIo Io.nr44 v with apu := { s.apu with
    ch4 := s.apu.ch4.writeControl s.apu.masterEnable (s.io Io.nr42) v } } := by
  have hNr42 : (s.setIo Io.nr44 v).io Io.nr42 = s.io Io.nr42 := (State.io_setIo ..).trans (if_neg (by decide))
  rw [memWrite_apu (k := Io.nr44) (by decide) (by decide), apuWrite_of_ne (by decide), hNr42]
  rfl

/-- Settles O55, channel by channel: the bus write, and then the fields of the channel. -/
theorem triggers : Obligations.Triggers := by
  intro s v h
  refine ⟨⟨_, memWrite_nr14 h s, ?ch1⟩, ⟨_, memWrite_nr24 s v, ?ch2⟩, ⟨_, memWrite_nr34 s v, ?ch3⟩,
    ⟨_, memWrite_nr44 s v, ?ch4⟩⟩
  case ch1 =>
    obtain ⟨hFrequency, hEnabled, hTimer, hLength, hVolume, hIncrease, hPeriod, hSteps, hFrame⟩ :=
      Square.trigger_fields h (rfl : _ = s.apu.ch1.writeControl s.apu.masterEnable (s.io Io.nr12) v)
    generalize s.apu.ch1.writeControl s.apu.masterEnable (s.io Io.nr12) v = c at *
    refine ⟨hFrequency, hEnabled, hTimer, hLength, hVolume, hIncrease, hPeriod, hSteps, ?_⟩
    exact congrArg (fun ch => { s.setIo Io.nr14 v with
      apu := { s.apu with ch1 := ch, sweep := s.apu.sweep.trigger c.frequency } }) hFrame
  case ch2 =>
    obtain ⟨hFrequency, hEnabled, hTimer, hLength, hVolume, hIncrease, hPeriod, hSteps, hFrame⟩ :=
      Square.trigger_fields h (rfl : _ = s.apu.ch2.writeControl s.apu.masterEnable (s.io Io.nr22) v)
    exact ⟨hFrequency, hEnabled, hTimer, hLength, hVolume, hIncrease, hPeriod, hSteps,
      congrArg (fun ch => { s.setIo Io.nr24 v with apu := { s.apu with ch2 := ch } }) hFrame⟩
  case ch3 =>
    obtain ⟨hFrequency, hEnabled, hTimer, hLength, hFrame⟩ :=
      Wave.trigger_fields h (rfl : _ = s.apu.ch3.writeControl s.apu.masterEnable v)
    exact ⟨hFrequency, hEnabled, hTimer, hLength,
      congrArg (fun ch => { s.setIo Io.nr34 v with apu := { s.apu with ch3 := ch } }) hFrame⟩
  case ch4 =>
    obtain ⟨hEnabled, hTimer, hLength, hVolume, hIncrease, hPeriod, hSteps, hFrame⟩ :=
      Noise.trigger_fields h (rfl : _ = s.apu.ch4.writeControl s.apu.masterEnable (s.io Io.nr42) v)
    exact ⟨hEnabled, hTimer, hLength, hVolume, hIncrease, hPeriod, hSteps,
      congrArg (fun ch => { s.setIo Io.nr44 v with apu := { s.apu with ch4 := ch } }) hFrame⟩

end Sys2Proof.Machine
end

section
/-! PROOFS. The statement about the frame sequencer of the APU (55_apu.md): its clock, its eight steps, and the length
tick, the sweep tick and the envelope tick that the steps are made of. -/

namespace Sys2Proof.Machine

/-! ## The steps (R452) -/

theorem add_one_eq_ofNat (n : BitVec 3) : n + 1 = BitVec.ofNat 3 ((n.toNat + 1) % 8) := by
  revert n
  decide

section

variable {s : State}

theorem frameSequencerStep_odd (h : s.apu.frameSequencerStep.toNat ∈ [1, 3, 5]) : frameSequencerStep s =
    { s with apu := { s.apu with frameSequencerStep := s.apu.frameSequencerStep + 1 } } := by
  simp only [List.mem_cons, List.not_mem_nil, or_false] at h
  unfold frameSequencerStep
  dsimp only
  rw [if_neg (by omega), if_neg (by omega), if_neg (by omega)]

theorem frameSequencerStep_lengths (h : s.apu.frameSequencerStep.toNat ∈ [0, 4]) : frameSequencerStep s =
    { s with apu := { (lengthTick s).apu with frameSequencerStep := s.apu.frameSequencerStep + 1 } } := by
  simp only [List.mem_cons, List.not_mem_nil, or_false] at h
  unfold frameSequencerStep
  dsimp only
  rw [if_pos (by omega), if_neg (by omega), if_neg (by omega)]
  rfl

theorem sweepTick_frameSequencerStep (u : Apu) : (sweepTick u).frameSequencerStep = u.frameSequencerStep := by
  unfold sweepTick
  dsimp only
  split_ifs <;> rfl

theorem frameSequencerStep_sweep (h : s.apu.frameSequencerStep.toNat ∈ [2, 6]) : frameSequencerStep s =
    { s with apu := { sweepTick (lengthTick s).apu with frameSequencerStep := s.apu.frameSequencerStep + 1 } } := by
  simp only [List.mem_cons, List.not_mem_nil, or_false] at h
  unfold frameSequencerStep
  dsimp only
  rw [if_pos (show s.apu.frameSequencerStep.toNat % 2 = 0 by omega), if_pos h,
    if_neg (show ¬s.apu.frameSequencerStep.toNat = 7 by omega), sweepTick_frameSequencerStep]
  rfl

theorem frameSequencerStep_envelopes (h : s.apu.frameSequencerStep.toNat = 7) : frameSequencerStep s =
    { s with apu := { envelopeTick s.apu with frameSequencerStep := s.apu.frameSequencerStep + 1 } } := by
  unfold frameSequencerStep
  dsimp only
  rw [if_neg (show ¬s.apu.frameSequencerStep.toNat % 2 = 0 by omega),
    if_neg (show ¬(s.apu.frameSequencerStep.toNat = 2 ∨ s.apu.frameSequencerStep.toNat = 6) by omega), if_pos h]
  rfl

end

/-! ## The clock (R451) -/

/-- The state with another number of cycles in the sequencer's accumulator. -/
def withSequencerCycles (s : State) (c : Nat) : State := { s with apu := { s.apu with frameSequencerCycles := c } }

theorem sweepTick_setCycles (u : Apu) (c : Nat) :
    sweepTick { u with frameSequencerCycles := c } = { sweepTick u with frameSequencerCycles := c } := by
  unfold sweepTick
  dsimp only
  split_ifs <;> rfl

/-- A step does not read the accumulator. -/
theorem frameSequencerStep_withSequencerCycles (s : State) (c : Nat) :
    frameSequencerStep (withSequencerCycles s c) = withSequencerCycles (frameSequencerStep s) c := by
  have hStep := s.apu.frameSequencerStep.isLt
  obtain h | h | h | h : s.apu.frameSequencerStep.toNat ∈ [1, 3, 5] ∨ s.apu.frameSequencerStep.toNat ∈ [0, 4] ∨
      s.apu.frameSequencerStep.toNat ∈ [2, 6] ∨ s.apu.frameSequencerStep.toNat = 7 := by
    simp only [List.mem_cons, List.not_mem_nil, or_false]
    omega
  · rw [frameSequencerStep_odd h, frameSequencerStep_odd (s := withSequencerCycles s c) h]
    rfl
  · rw [frameSequencerStep_lengths h, frameSequencerStep_lengths (s := withSequencerCycles s c) h]
    rfl
  · rw [frameSequencerStep_sweep h, frameSequencerStep_sweep (s := withSequencerCycles s c) h]
    have hSweep := sweepTick_setCycles (lengthTick s).apu c
    have : (lengthTick (withSequencerCycles s c)).apu = { (lengthTick s).apu with frameSequencerCycles := c } := rfl
    rw [this, hSweep]
    rfl
  · rw [frameSequencerStep_envelopes h, frameSequencerStep_envelopes (s := withSequencerCycles s c) h]
    rfl

theorem frameSequencerTick_eq (n : Nat) (s : State) : frameSequencerTick n s =
    applyTimes frameSequencerStep ((s.apu.frameSequencerCycles + n) / 8192)
      (withSequencerCycles s ((s.apu.frameSequencerCycles + n) % 8192)) := rfl

theorem frameSequencerTick_short {s : State} {n : Nat} (h : s.apu.frameSequencerCycles + n < 8192) :
    frameSequencerTick n s = withSequencerCycles s (s.apu.frameSequencerCycles + n) := by
  rw [frameSequencerTick_eq, Nat.div_eq_of_lt h, Nat.mod_eq_of_lt h]
  rfl

/-- R451: one turn of the loop. -/
theorem frameSequencerTick_turn {s : State} {n : Nat} (h : 8192 ≤ s.apu.frameSequencerCycles + n) :
    frameSequencerTick n s = frameSequencerTick (s.apu.frameSequencerCycles + n - 8192)
      (frameSequencerStep (withSequencerCycles s 0)) := by
  have hCycles : (frameSequencerStep (withSequencerCycles s 0)).apu.frameSequencerCycles = 0 := by
    rw [frameSequencerStep_withSequencerCycles]
    rfl
  rw [frameSequencerTick_eq, frameSequencerTick_eq, hCycles, Nat.zero_add]
  generalize s.apu.frameSequencerCycles + n = total at *
  have hTurns : total / 8192 = (total - 8192) / 8192 + 1 := by omega
  rw [hTurns, applyTimes, Nat.mod_eq_sub_mod h, frameSequencerStep_withSequencerCycles,
    frameSequencerStep_withSequencerCycles]
  rfl

/-! ## The length tick (R453) -/

theorem lengthClock_lengthStep (nrx4 : Byte) (enabled : Bool) (counter : Nat) :
    LengthClock nrx4 enabled counter (lengthStep (bitOf nrx4 6) enabled counter).1
      (lengthStep (bitOf nrx4 6) enabled counter).2 := by
  unfold LengthClock lengthStep bitOf
  cases nrx4.getLsbD 6 with
  | false => simp
  | true =>
    cases counter with
    | zero => simp
    | succ c => simp [bne]

/-! ## The sweep tick (R454) -/

theorem Sweep.newFrequency_eq (sw : Sweep) : sw.newFrequency =
    if sw.negate then sw.shadowFrequency.toNat - sw.shadowFrequency.toNat / 2 ^ sw.shift.toNat
      else sw.shadowFrequency.toNat + sw.shadowFrequency.toNat / 2 ^ sw.shift.toNat := by
  rw [Sweep.newFrequency, Nat.shiftRight_eq_div_pow]

section

variable {u : Apu}

theorem sweepTick_stopped (h : u.sweep.period = 0) : sweepTick u = u := if_pos h

theorem sweepTick_counts (hp : u.sweep.period ≠ 0) (ht : 1 < u.sweep.timer) :
    sweepTick u = { u with sweep := { u.sweep with timer := u.sweep.timer - 1 } } := by
  rw [sweepTick, if_neg hp, if_pos ht]

variable (hp : u.sweep.period ≠ 0) (ht : u.sweep.timer ≤ 1)

include hp ht

theorem sweepTick_overflow (hf : 2047 < u.sweep.newFrequency) : sweepTick u =
    { u with sweep := { u.sweep with timer := u.sweep.period.toNat }, ch1 := { u.ch1 with enabled := false } } := by
  rw [sweepTick, if_neg hp, if_neg (by omega)]
  exact if_pos hf

theorem sweepTick_no_shift (hf : u.sweep.newFrequency ≤ 2047) (hs : u.sweep.shift = 0) : sweepTick u =
    { u with sweep := { u.sweep with timer := u.sweep.period.toNat } } := by
  rw [sweepTick, if_neg hp, if_neg (by omega)]
  exact (if_neg (by omega)).trans (if_pos hs)

theorem sweepTick_writes (hf : u.sweep.newFrequency ≤ 2047) (hs : u.sweep.shift ≠ 0) : sweepTick u =
    { u with sweep := { u.sweep with timer := u.sweep.period.toNat,
                                     shadowFrequency := BitVec.ofNat 11 u.sweep.newFrequency },
             ch1 := { u.ch1 with frequency := BitVec.ofNat 11 u.sweep.newFrequency } } := by
  rw [sweepTick, if_neg hp, if_neg (by omega)]
  exact (if_neg (by omega)).trans (if_neg hs)

/-- What a reload of the sweep's timer does, in the terms of R454. -/
theorem sweepTick_reload {f : Nat} (he : u.sweep.newFrequency = f) :
    (sweepTick u).sweep.timer = u.sweep.period.toNat ∧
      (2047 < f → (sweepTick u).ch1.enabled = false ∧ (sweepTick u).ch1.frequency = u.ch1.frequency ∧
        (sweepTick u).sweep.shadowFrequency = u.sweep.shadowFrequency) ∧
      (f ≤ 2047 → (sweepTick u).ch1.enabled = u.ch1.enabled) ∧
      (f ≤ 2047 → u.sweep.shift ≠ 0 →
        (sweepTick u).ch1.frequency.toNat = f ∧ (sweepTick u).sweep.shadowFrequency.toNat = f) ∧
      (f ≤ 2047 → u.sweep.shift = 0 → (sweepTick u).ch1.frequency = u.ch1.frequency ∧
        (sweepTick u).sweep.shadowFrequency = u.sweep.shadowFrequency) := by
  subst he
  by_cases hf : 2047 < u.sweep.newFrequency
  · rw [sweepTick_overflow hp ht hf]
    exact ⟨rfl, fun _ => ⟨rfl, rfl, rfl⟩, fun h => by omega, fun h => by omega, fun h => by omega⟩
  · by_cases hs : u.sweep.shift = 0
    · rw [sweepTick_no_shift hp ht (by omega) hs]
      exact ⟨rfl, fun h => absurd h hf, fun _ => rfl, fun _ h => absurd hs h, fun _ _ => ⟨rfl, rfl⟩⟩
    · rw [sweepTick_writes hp ht (by omega) hs]
      have hWritten : (BitVec.ofNat 11 u.sweep.newFrequency).toNat = u.sweep.newFrequency := by
        rw [BitVec.toNat_ofNat]
        omega
      exact ⟨rfl, fun h => absurd h hf, fun _ => rfl, fun _ _ => ⟨hWritten, hWritten⟩, fun _ h => absurd h hs⟩

end

/-! ## The envelope tick (R456) -/

theorem stepVolume_toNat (increase : Bool) (v : BitVec 4) :
    (stepVolume increase v).toNat = if increase then min 15 (v.toNat + 1) else v.toNat - 1 := by
  revert increase v
  decide

section

variable {e : Envelope}

theorem Envelope.tick_stopped (h : e.period = 0) : e.tick = e := if_pos h

theorem Envelope.tick_counts (hp : e.period ≠ 0) (ht : 1 < e.timer) : e.tick = { e with timer := e.timer - 1 } := by
  rw [Envelope.tick, if_neg hp, if_pos ht]

theorem Envelope.tick_reload (hp : e.period ≠ 0) (ht : e.timer ≤ 1) :
    e.tick = { e with timer := e.period.toNat, volume := stepVolume e.increase e.volume } := by
  rw [Envelope.tick, if_neg hp, if_neg (by omega)]

end

/-- Settles O56: the clock, the steps, and the three ticks that they make. -/
theorem sweepAndEnvelope : Obligations.SweepAndEnvelope := by
  refine ⟨fun s n => ⟨frameSequencerTick_short, frameSequencerTick_turn⟩, fun s => ?steps, fun s => ?lengths,
    fun u => ⟨sweepTick_stopped, sweepTick_counts, fun hp ht => sweepTick_reload hp ht u.sweep.newFrequency_eq⟩,
    fun e => ⟨Envelope.tick_stopped, Envelope.tick_counts, fun hp ht => ?envelope⟩⟩
  case steps =>
    dsimp only
    rw [← add_one_eq_ofNat]
    exact ⟨frameSequencerStep_odd, frameSequencerStep_lengths, frameSequencerStep_sweep, frameSequencerStep_envelopes⟩
  case lengths =>
    exact ⟨_, rfl, lengthClock_lengthStep .., lengthClock_lengthStep .., lengthClock_lengthStep ..,
      lengthClock_lengthStep .., rfl⟩
  case envelope =>
    rw [Envelope.tick_reload hp ht]
    exact ⟨rfl, stepVolume_toNat e.increase e.volume⟩

end Sys2Proof.Machine
end

section
/-! PROOFS. The statement about the frequency timers of the APU (55_apu.md R490) and about the LFSR of channel 4 (R492). -/

namespace Sys2Proof.Machine

/-! ## One timer (R490) -/

theorem advanceTimer_short {timer cycles : Nat} (h : cycles < timer) (period : Nat) :
    advanceTimer timer cycles period = (timer - cycles, 0) := if_pos h

theorem advanceTimer_reloads {timer cycles : Nat} (h : timer ≤ cycles) (period : Nat) :
    advanceTimer timer cycles period =
      (timer + ((cycles - timer) / period + 1) * period - cycles, (cycles - timer) / period + 1) := if_neg (by omega)

/-- The last of its reloads brings a timer to 1 at least, and to one period at most. -/
theorem reloads_exceed {timer cycles period : Nat} (hp : 0 < period) (h : timer ≤ cycles) : ∃ t, 0 < t ∧ t ≤ period ∧
    timer + ((cycles - timer) / period + 1) * period = cycles + t := by
  have hDivision := Nat.div_add_mod' (cycles - timer) period
  have hRest := Nat.mod_lt (cycles - timer) hp
  refine ⟨period - (cycles - timer) % period, Nat.sub_pos_of_lt hRest, Nat.sub_le .., ?_⟩
  rw [Nat.succ_mul]
  omega

theorem advanceTimer_accounts (timer cycles : Nat) {period : Nat} (hp : 0 < period) :
    ∃ t k, advanceTimer timer cycles period = (t, k) ∧ t + cycles = timer + k * period ∧
      (0 < timer ∨ 0 < k → 0 < t) ∧ (0 < k → t ≤ period) ∧ (k = 0 → cycles < timer) := by
  obtain h | h := Nat.lt_or_ge cycles timer
  · exact ⟨_, _, advanceTimer_short h period, by omega, fun _ => by omega, fun hk => by omega, fun _ => h⟩
  · obtain ⟨t, hPos, hMost, hReloads⟩ := reloads_exceed hp h
    refine ⟨t, (cycles - timer) / period + 1, (advanceTimer_reloads h period).trans ?_, by omega, fun _ => hPos,
      fun _ => hMost, fun hk => absurd hk (Nat.succ_ne_zero _)⟩
    rw [hReloads, Nat.add_sub_cancel_left]

/-! ## The generators -/

/-- A counter of `w` bits that is raised `k` times. -/
theorem toNat_add_ofNat {w : Nat} (v : BitVec w) (k : Nat) : (v + BitVec.ofNat w k).toNat = (v.toNat + k) % 2 ^ w := by
  rw [BitVec.toNat_add, BitVec.toNat_ofNat, Nat.add_mod_mod]

/-! ## The LFSR (R492) -/

/-- The bit that an LFSR step feeds back. -/
def lfsrFeedback (l : BitVec 15) : Bool := l.getLsbD 0 != l.getLsbD 1

theorem lfsrStep_false (l : BitVec 15) :
    lfsrStep false l = (l >>> 1) ||| (if lfsrFeedback l then 0x4000#15 else 0) := rfl

theorem lfsrStep_true (l : BitVec 15) : lfsrStep true l =
    (lfsrStep false l &&& ~~~0x40#15) ||| (if lfsrFeedback l then 0x40#15 else 0) := rfl

theorem lfsrFeedback_toNat (l : BitVec 15) : (lfsrFeedback l).toNat = (l.toNat + l.toNat / 2) % 2 := by
  have h0 : (l.getLsbD 0).toNat = l.toNat % 2 := (Nat.toNat_testBit l.toNat 0).trans (by rw [pow_zero, Nat.div_one])
  have h1 : (l.getLsbD 1).toNat = l.toNat / 2 % 2 := Nat.toNat_testBit l.toNat 1
  have hXor : ∀ x y : Bool, (x != y).toNat = (x.toNat + y.toNat) % 2 := by decide
  rw [lfsrFeedback, hXor, h0, h1, ← Nat.add_mod]

theorem lfsrStep_false_toNat (l : BitVec 15) :
    (lfsrStep false l).toNat = l.toNat / 2 + 2 ^ 14 * (lfsrFeedback l).toNat := by
  have hTop : (if lfsrFeedback l then 0x4000#15 else 0).toNat = (lfsrFeedback l).toNat * 2 ^ 14 := by
    cases lfsrFeedback l <;> rfl
  have hShifted : (l >>> 1).toNat = l.toNat / 2 := by rw [BitVec.toNat_ushiftRight, Nat.shiftRight_eq_div_pow, pow_one]
  have hBound : (l >>> 1).toNat < 2 ^ 14 := by omega
  rw [lfsrStep_false, BitVec.or_comm, toNat_or_of_lt hTop hBound, hShifted, Nat.mul_comm, Nat.add_comm]

/-- A word with bit 6 replaced has the bits of its eight upper bits, the new bit and its six lower bits. -/
theorem getLsbD_replaceBit6 (x : BitVec 15) (b : Bool) {i : Nat} (hi : i < 15) :
    ((x &&& ~~~0x40#15) ||| (if b then 0x40#15 else 0)).getLsbD i =
      (x.extractLsb' 7 8 ++ (BitVec.ofBool b ++ x.extractLsb' 0 6)).getLsbD i := by
  rw [BitVec.getLsbD_append, BitVec.getLsbD_append]
  interval_cases i <;> cases b <;> simp

theorem replaceBit6_eq_append (x : BitVec 15) (b : Bool) :
    (x &&& ~~~0x40#15) ||| (if b then 0x40#15 else 0) = x.extractLsb' 7 8 ++ (BitVec.ofBool b ++ x.extractLsb' 0 6) :=
  BitVec.eq_of_getLsbD_eq fun _ => getLsbD_replaceBit6 x b

theorem replaceBit6_toNat (x : BitVec 15) (b : Bool) : ((x &&& ~~~0x40#15) ||| (if b then 0x40#15 else 0)).toNat =
    x.toNat / 128 * 128 + 64 * b.toNat + x.toNat % 64 := by
  have hHigh : (x.extractLsb' 7 8).toNat = x.toNat / 128 := by
    rw [BitVec.extractLsb'_toNat, Nat.shiftRight_eq_div_pow]
    omega
  have hLow : (x.extractLsb' 0 6).toNat = x.toNat % 64 := by rw [BitVec.extractLsb'_toNat, Nat.shiftRight_zero]
  have hMid : (BitVec.ofBool b ++ x.extractLsb' 0 6).toNat = 64 * b.toNat + x.toNat % 64 := by
    rw [BitVec.toNat_append, ← Nat.shiftLeft_add_eq_or_of_lt (BitVec.isLt _), Nat.shiftLeft_eq, hLow,
      BitVec.toNat_ofBool, Nat.mul_comm]
  rw [replaceBit6_eq_append, BitVec.toNat_append, ← Nat.shiftLeft_add_eq_or_of_lt (BitVec.isLt _), Nat.shiftLeft_eq,
    hHigh, hMid, Nat.add_assoc]

theorem lfsrStep_toNat (l : BitVec 15) :
    let b := (l.toNat + l.toNat / 2) % 2
    let shifted := l.toNat / 2 + 2 ^ 14 * b
    (lfsrStep false l).toNat = shifted ∧
    (lfsrStep true l).toNat = shifted / 128 * 128 + 64 * b + shifted % 64 := by
  rw [lfsrStep_true, replaceBit6_toNat, lfsrStep_false_toNat, lfsrFeedback_toNat]
  exact ⟨rfl, rfl⟩

/-- Settles O57: each timer accounts for its cycles, its reloads move the channel, and an LFSR step is a shift with one
bit, or two, fed back. -/
theorem frequencyTimers : Obligations.FrequencyTimers :=
  ⟨fun timer cycles _ hp => advanceTimer_accounts timer cycles hp,
   fun u n => ⟨advanceGenerators n u, (advanceTimer u.ch1.frequencyTimer n u.ch1.period).2,
     (advanceTimer u.ch2.frequencyTimer n u.ch2.period).2, (advanceTimer u.ch3.frequencyTimer n u.ch3.period).2,
     (advanceTimer u.ch4.frequencyTimer n u.ch4.period).2, rfl, rfl, toNat_add_ofNat .., rfl, toNat_add_ofNat .., rfl,
     toNat_add_ofNat .., by rw [← Noise.period_eq]; rfl, rfl, rfl⟩,
   lfsrStep_toNat⟩

end Sys2Proof.Machine
end

section
/-! PROOFS. The statement about the sample clock of the APU (55_apu.md R451, R491 to R501): how many frames a tick
appends, where they stand, and what a frame holds. -/

namespace Sys2Proof.Machine

/-! ## The amplitudes (R491, R493, R495) -/

theorem dutyTable_iff (d : BitVec 2) (p : BitVec 3) :
    ([[0, 0, 0, 0, 0, 0, 0, 1], [1, 0, 0, 0, 0, 0, 0, 1], [1, 0, 0, 0, 0, 1, 1, 1],
      [0, 1, 1, 1, 1, 1, 1, 0]].getD d.toNat []).getD p.toNat 0 = 1 ↔ (dutyPattern d).getD p.toNat false = true := by
  revert d p
  decide

theorem squareLevel_eq (ch : Square) : squareLevel ch = ch.amplitude := if_congr (dutyTable_iff ..) rfl rfl

theorem waveLevel_eq (s : State) : waveLevel s = waveAmplitude s :=
  if_congr Iff.rfl rfl (congrArg Nat.cast (Nat.shiftRight_eq_div_pow ..).symm)

theorem noiseLevel_eq (ch : Noise) : noiseLevel ch = ch.amplitude :=
  if_congr (by rw [BitVec.getLsbD, Nat.testBit_zero, decide_eq_true_eq]) rfl rfl

/-! ## A frame (R500) -/

theorem clamp16_eq (v : Int) : clamp16 v = max (-32768) (min 32767 v) := by
  unfold clamp16
  omega

theorem toInt_clamp16 (v : Int) : (BitVec.ofInt 16 (clamp16 v)).toInt = clamp16 v := by
  unfold clamp16
  rw [BitVec.toInt_ofInt]
  exact Int.bmod_eq_of_le (by omega) (by omega)

theorem frameSample_eq (s : State) (pan master : Nat) :
    frameSample s pan master = clamp16 (mixSide s pan * master * Config.audioGain) := by
  rw [clamp16_eq, show Config.audioGain = 1 from rfl, Int.mul_one, frameSample, squareLevel_eq, squareLevel_eq,
    waveLevel_eq, noiseLevel_eq]
  rfl

theorem leftSample_toInt (s : State) :
    (BitVec.ofInt 16 (leftSample s)).toInt = frameSample s 4 ((s.io Io.nr50).toNat / 16 % 8) := by
  rw [leftSample, toInt_clamp16, frameSample_eq, BitVec.extractLsb'_toNat, Nat.shiftRight_eq_div_pow]

theorem rightSample_toInt (s : State) :
    (BitVec.ofInt 16 (rightSample s)).toInt = frameSample s 0 ((s.io Io.nr50).toNat % 8) := by
  rw [rightSample, toInt_clamp16, frameSample_eq, BitVec.extractLsb'_toNat, Nat.shiftRight_zero]

/-- With every channel disabled a side's mix is 0. -/
theorem mixSide_silent {s : State} (h1 : s.apu.ch1.enabled = false) (h2 : s.apu.ch2.enabled = false)
    (h3 : s.apu.ch3.enabled = false) (h4 : s.apu.ch4.enabled = false) (base : Nat) : mixSide s base = 0 := by
  simp [mixSide, share, h1, h2, h3, h4]

/-! ## The buffer (R501) -/

section

variable {l r : Int} {u : Apu}

theorem Apu.writeFrame_full (h : 2048 ≤ u.writePos) : u.writeFrame l r = u := if_neg (by omega)

theorem Apu.writeFrame_room (h : u.writePos < 2048) : u.writeFrame l r =
    { u with
      buffer := (u.buffer.write (2 * u.writePos) (BitVec.ofInt 16 l)).write (2 * u.writePos + 1) (BitVec.ofInt 16 r)
      writePos := u.writePos + 1 } := if_pos h

theorem Apu.read_writeFrame (h : u.writePos < 2048) (i : Nat) : (u.writeFrame l r).buffer.read i =
    if i = 2 * u.writePos + 1 then BitVec.ofInt 16 r
    else if i = 2 * u.writePos then BitVec.ofInt 16 l else u.buffer.read i := by
  rw [Apu.writeFrame_room h]
  dsimp only
  rw [Cells.read_write, Cells.read_write]

end

/-- The APU `v` is `u` with `k` more frames of the samples `l` and `r`, as far as the buffer has room. -/
structure FramesAppended (l r : Int) (k : Nat) (u v : Apu) : Prop where
  writePos : v.writePos = min 2048 (u.writePos + k)
  older : ∀ i, i < 2 * u.writePos → v.buffer.read i = u.buffer.read i
  left : ∀ j, u.writePos ≤ j → j < v.writePos → v.buffer.read (2 * j) = BitVec.ofInt 16 l
  right : ∀ j, u.writePos ≤ j → j < v.writePos → v.buffer.read (2 * j + 1) = BitVec.ofInt 16 r
  frame : v = { u with writePos := v.writePos, buffer := v.buffer }

section

variable {l r : Int} {k : Nat} {u v : Apu}

theorem framesAppended_zero (h : u.writePos ≤ 2048) : FramesAppended l r 0 u u :=
  ⟨(Nat.min_eq_right h).symm, fun _ _ => rfl, fun j h1 h2 => by omega, fun j h1 h2 => by omega, rfl⟩

theorem FramesAppended.writeFrame (h : FramesAppended l r k u v) : FramesAppended l r (k + 1) u (v.writeFrame l r) := by
  obtain ⟨hPos, hOlder, hLeft, hRight, hFrame⟩ := h
  obtain hRoom | hFull := Nat.lt_or_ge v.writePos 2048
  · have hNew : (v.writeFrame l r).writePos = v.writePos + 1 := by rw [Apu.writeFrame_room hRoom]
    refine ⟨by omega, fun i hi => ?older, fun j h1 h2 => ?left, fun j h1 h2 => ?right, ?frame⟩
    case older => rw [Apu.read_writeFrame hRoom, if_neg (by omega), if_neg (by omega), hOlder i hi]
    case left =>
      rw [Apu.read_writeFrame hRoom, if_neg (by omega)]
      split_ifs with hLast
      · rfl
      · exact hLeft j h1 (by omega)
    case right =>
      rw [Apu.read_writeFrame hRoom, if_neg (show ¬2 * j + 1 = 2 * v.writePos by omega)]
      split_ifs with hLast
      · rfl
      · exact hRight j h1 (by omega)
    case frame =>
      rw [Apu.writeFrame_room hRoom, hFrame]
  · rw [Apu.writeFrame_full hFull]
    exact ⟨by omega, hOlder, hLeft, hRight, hFrame⟩

end

theorem framesAppended (l r : Int) (k : Nat) {u : Apu} (h : u.writePos ≤ 2048) :
    FramesAppended l r k u (applyTimes (Apu.writeFrame l r) k u) := by
  induction k with
  | zero => exact framesAppended_zero h
  | succ k ih =>
    rw [applyTimes_add]
    exact ih.writeFrame

/-! ## The sample clock (R451) -/

theorem leftSample_emitFrame (s : State) : leftSample (emitFrame s) = leftSample s := by
  unfold emitFrame Apu.writeFrame
  split_ifs <;> rfl

theorem rightSample_emitFrame (s : State) : rightSample (emitFrame s) = rightSample s := by
  unfold emitFrame Apu.writeFrame
  split_ifs <;> rfl

/-- The frames of one tick hold the same two samples. -/
theorem emitFrames_eq (k : Nat) (s : State) : applyTimes emitFrame k s =
    { s with apu := applyTimes (Apu.writeFrame (leftSample s) (rightSample s)) k s.apu } := by
  induction k generalizing s with
  | zero => rfl
  | succ k ih =>
    rw [applyTimes, ih, leftSample_emitFrame, rightSample_emitFrame]
    rfl

/-- The state with another number of cycles in the sample clock's accumulator. -/
def withSampleCycles (s : State) (c : Nat) : State := { s with apu := { s.apu with sampleCycles := c } }

/-- A tick appends its frames to the buffer, each with the two samples of the state before the tick. -/
theorem sampleTick_appends {s : State} (n : Nat) (h : s.apu.writePos ≤ 2048) :
    ∃ v, sampleTick n s = { s with apu := v } ∧
      FramesAppended (leftSample s) (rightSample s) ((s.apu.sampleCycles + n) / 128)
        (withSampleCycles s ((s.apu.sampleCycles + n) % 128)).apu v :=
  ⟨_, emitFrames_eq _ (withSampleCycles s ((s.apu.sampleCycles + n) % 128)), framesAppended _ _ _ h⟩

/-- With every channel disabled both samples are 0. -/
theorem samples_silent {s : State} (h1 : s.apu.ch1.enabled = false) (h2 : s.apu.ch2.enabled = false)
    (h3 : s.apu.ch3.enabled = false) (h4 : s.apu.ch4.enabled = false) : leftSample s = 0 ∧ rightSample s = 0 := by
  have hMix := mixSide_silent h1 h2 h3 h4
  rw [leftSample, rightSample, hMix, hMix, Int.zero_mul, Int.zero_mul, Int.zero_mul]
  exact ⟨rfl, rfl⟩

/-- Settles O58: what the sample clock appends, and that a frame is the mix of the statement. -/
theorem sampleClock : Obligations.SampleClock := by
  refine ⟨fun s n => rfl, fun s n hPos => ?_⟩
  obtain ⟨v, hTick, hAppended⟩ := sampleTick_appends n hPos
  obtain ⟨hNew, hOlder, hLeft, hRight, hFrame⟩ := hAppended
  refine ⟨_, hTick, ?cycles, hNew, hOlder, fun j h1 h2 => ⟨?left, ?right⟩, fun h1 h2 h3 h4 k hk1 hk2 => ?silent, ?frame⟩
  case cycles => rw [hFrame]; rfl
  case left => rw [← leftSample_toInt, ← hLeft j h1 h2]
  case right => rw [← rightSample_toInt, ← hRight j h1 h2]
  case silent =>
    have hEnd : k < 2 * v.writePos := hk2
    obtain ⟨hl, hr⟩ := samples_silent h1 h2 h3 h4
    obtain ⟨j, rfl | rfl⟩ := Nat.even_or_odd' k
    · exact (hLeft j (show s.apu.writePos ≤ j by omega) (by omega)).trans (by rw [hl]; rfl)
    · exact (hRight j (show s.apu.writePos ≤ j by omega) (by omega)).trans (by rw [hr]; rfl)
  case frame => rw [hFrame]; rfl

end Sys2Proof.Machine
end
